-- ==== Sys2Proof/Word.lean ====
section
/-! DEFINITION. The word types of DESC: 32-bit registers and block halves, 24-bit subkey halves and masks (R6, R7). -/

namespace Sys2Proof

/-- A register, a block half, a command word: 32 bits (R6, R7 WORD). -/
abbrev Word := BitVec 32

/-- A subkey half, a salt or a salt mask: 24 bits (R6, R7 SALT_BITS, C1). -/
abbrev Half24 := BitVec 24

/-- A character of the crypt alphabet, a byte given to DEC (R100, R103). -/
abbrev Byte := BitVec 8

end Sys2Proof
end

