-- ==== Sys2Proof/Syntax.lean ====
section
/-! DEFINITION. The commands of DESC, one constructor per row of the opcode map (R72). Operands have their form's
width (R73: imm24, imm6, imm8), so every term is well formed; an operand out of range cannot be written down here.
The assembler's range check on written numbers (R81) is in WellFormed.lean. -/

namespace Sys2Proof

/-- A DESC command (R72). -/
inductive Instr where
  /-- KSCHED, no operand (R130). -/
  | ksched
  /-- SALTX #s, imm24 (R120). -/
  | saltx (s : Half24)
  /-- DESRUN, no operand (R150). -/
  | desrun
  /-- ENC #v, imm6 (R102). -/
  | enc (v : BitVec 6)
  /-- DEC #c, imm8 (R104). -/
  | dec (c : Byte)
  /-- CLRERR, no operand (R180). -/
  | clrerr
  /-- ZEROIZE, no operand (R182). -/
  | zeroize
deriving DecidableEq, Repr

end Sys2Proof
end

