-- ==== Sys2Proof/Decode.lean ====
section
/-! DEFINITION. The command decoder, total on all 32-bit words and rejecting by name (R76), the encoder (R81), the
opcode map's match and mask rows (R72), and decodeTableWord for the host's numbering of a word's bits. -/

namespace Sys2Proof

/-- Why a word is illegal (R75, R201): both reasons raise ILLEGAL_CMD. -/
inductive IllegalWord where
  /-- The opcode is none of the seven of R72. -/
  | unassignedOpcode (opc : BitVec 8)
  /-- A must-be-zero operand bit is 1 (R73). -/
  | mustBeZero (opnd : BitVec 24)
deriving DecidableEq, Repr

/-- OPC, bits 31:24 of a command word (R70). -/
def opcOf (w : Word) : BitVec 8 := w.extractLsb' 24 8

/-- OPND, bits 23:0 of a command word (R70). -/
def opndOf (w : Word) : BitVec 24 := w.extractLsb' 0 24

/-- A command with no operand: OPND[23:0] must be zero (R73). -/
def decodeNone (opnd : BitVec 24) (i : Instr) : Except IllegalWord Instr :=
  if opnd = 0 then .ok i else .error (.mustBeZero opnd)

/-- decode_cmd (R76). -/
def decode (w : Word) : Except IllegalWord Instr :=
  let opnd := opndOf w
  match (opcOf w).toNat with
  | 0x01 => decodeNone opnd .ksched
  | 0x02 => .ok (.saltx opnd)
  | 0x03 => decodeNone opnd .desrun
  | 0x04 => if opnd.extractLsb' 6 18 = 0 then .ok (.enc (opnd.extractLsb' 0 6)) else .error (.mustBeZero opnd)
  | 0x05 => if opnd.extractLsb' 8 16 = 0 then .ok (.dec (opnd.extractLsb' 0 8)) else .error (.mustBeZero opnd)
  | 0x0E => decodeNone opnd .clrerr
  | 0x0F => decodeNone opnd .zeroize
  | _ => .error (.unassignedOpcode (opcOf w))

/-- The word of a command (R81). -/
def encode : Instr → Word
  | .ksched => 0x01000000
  | .saltx s => 0x02000000 ||| s.setWidth 32
  | .desrun => 0x03000000
  | .enc v => 0x04000000 ||| v.setWidth 32
  | .dec c => 0x05000000 ||| c.setWidth 32
  | .clrerr => 0x0E000000
  | .zeroize => 0x0F000000

/-- The match value of a command's row of the opcode map (R72). -/
def rowMatch : Instr → Word
  | .ksched => 0x01000000
  | .saltx _ => 0x02000000
  | .desrun => 0x03000000
  | .enc _ => 0x04000000
  | .dec _ => 0x05000000
  | .clrerr => 0x0E000000
  | .zeroize => 0x0F000000

/-- The mask of a command's row of the opcode map (R72). -/
def rowMask : Instr → Word
  | .ksched => 0xFFFFFFFF
  | .saltx _ => 0xFF000000
  | .desrun => 0xFFFFFFFF
  | .enc _ => 0xFFFFFFC0
  | .dec _ => 0xFFFFFF00
  | .clrerr => 0xFFFFFFFF
  | .zeroize => 0xFFFFFFFF

/-- The instruction the decoder reads from a word given as the opcode table numbers its bits: a command is one
32-bit word, so every bit above `nbits` is 0. -/
def decodeTableWord (nbits w : Nat) : Option Instr :=
  match decode (BitVec.ofNat 32 (w % 2 ^ nbits)) with
  | .ok i => some i
  | .error _ => none

end Sys2Proof
end

