-- ==== Sys2Proof/Config.lean ====
section
/-! DEFINITION. What is fixed for one DESC (R7): its identification value, its base address (open), and the free
values that a hazard read draws (R226). The latencies LAT_x are open too; they come with the inputs (log 2). -/

namespace Sys2Proof.Config

/-- ID_VALUE (R7, R22): the constant the register ID reads as. -/
def idValue : Word := 0x44455331

/-- WINDOW_BYTES (R7, R20): the window is 64 bytes, offsets 0x00 to 0x3F. -/
def windowBytes : Nat := 64

/-- DESC_BASE in units of 64 bytes: open (R7, D3), so no value of it can be used. -/
opaque baseIndex : Nat

/-- DESC_BASE (R7): the window's address on the host's bus, 64-byte aligned, otherwise open. -/
def descBase : Nat := windowBytes * baseIndex

/-- FREE VALUE (log 3): what the n-th unspecified read returns (R226: "an unspecified 32-bit value (a draw)"). -/
opaque draw : Nat → Word

end Sys2Proof.Config
end

