-- ==== Sys2Proof/Machine/State.lean ====
section
/-! DEFINITION. The state of one DESC instance as plain data: every register of the window (R20), the expanded-key
file (R30), the pending command (R34), and three fields of the model's own: the host operations still to come, the
values reads have returned, and the count of draws. -/

namespace Sys2Proof.Machine

/-- One subkey pair EK.L[i], EK.R[i] (R30). -/
structure SubKey where
  l : Half24
  r : Half24
deriving DecidableEq, Repr

/-- The expanded-key file EK: 16 subkey pairs, index i = 0..15 for rounds 1..16 (R30). -/
abbrev ExpandedKey := Vector SubKey 16

/-- The error codes of R201. Codes 4 to 15 are never raised, so they have no constructor (log 16). -/
inductive ErrCode where
  | none
  | illegalCmd
  | noKey
  | busyWrite
deriving DecidableEq, Repr

/-- The registers commands read (R37), as they stood when a command was accepted (R225). -/
structure Operands where
  keyHi : Word
  keyLo : Word
  count : Word
  dinL : Word
  dinR : Word
  smask : Half24
  kv : Bool
  ek : ExpandedKey
deriving DecidableEq, Repr

/-- The pending command (R34): its opcode and operand field as the decoded command, the register values it reads, and
how many more steps pass before the engine completes it (R224, R228; log 2). -/
structure Pending where
  instr : Instr
  ops : Operands
  wait : Nat
deriving DecidableEq, Repr

/-- The width of a host access (R55): only `word` is an access DESC defines. -/
inductive AccessSize where
  | byte
  | half
  | word
  | dword
deriving DecidableEq, Repr

/-- A host access to the window: its width and its offset from DESC_BASE (R51, R52). -/
structure Access where
  size : AccessSize
  off : BitVec 6
deriving DecidableEq, Repr

/-- What reaches DESC from outside (log 1). -/
inductive HostOp where
  /-- A host read (R51); the value goes to `returned`. -/
  | read (a : Access)
  /-- A host write (R52). `lat` is used only where the write starts a command: the latency LAT of that command, in
  steps after the step of the write (R228; log 2). -/
  | write (a : Access) (v : Word) (lat : Nat)
  /-- WAIT: poll STATUS until BUSY = 0 (R82); it stays the next operation while BUSY = 1 (log 5). -/
  | wait
  /-- Reset is asserted (R221). -/
  | reset
deriving DecidableEq, Repr

/-- The state of one DESC instance. -/
structure State where
  /-- KEY_HI, write-only (R24). -/
  keyHi : Word
  /-- KEY_LO, write-only (R24). -/
  keyLo : Word
  /-- COUNT (R25). -/
  count : Word
  /-- DIN_L (R26). -/
  dinL : Word
  /-- DIN_R (R26). -/
  dinR : Word
  /-- DOUT_L (R27). -/
  doutL : Word
  /-- DOUT_R (R27). -/
  doutR : Word
  /-- SMASK[23:0] (R28); bits 31:24 are always 0. -/
  smask : Half24
  /-- CODEC.VAL, CODEC[5:0] (R29). -/
  val : BitVec 6
  /-- CODEC.CHAR, CODEC[15:8] (R29). -/
  char : Byte
  /-- STATUS.ERR (R23). -/
  err : Bool
  /-- STATUS.ERRCODE (R23, R201). -/
  errCode : ErrCode
  /-- STATUS.OK (R23). -/
  ok : Bool
  /-- STATUS.KV (R23, R32). -/
  kv : Bool
  /-- The expanded-key file (R30), not host-visible. -/
  ek : ExpandedKey
  /-- The pending command; STATUS.BUSY = 1 exactly while there is one (R34). -/
  pending : Option Pending
  /-- The model's own (log 1): what the outside does next, oldest first. -/
  inputs : List HostOp
  /-- The model's own (log 4): the values host reads have returned, newest first. -/
  returned : List Word
  /-- The model's own (log 3): how many unspecified reads have been answered. -/
  draws : Nat
deriving DecidableEq, Repr

/-- DESC raises no traps (R200): every error is recorded in STATUS and the machine goes on, so no step ends in a fault
and there is no reason for one. -/
inductive Fault where
deriving DecidableEq, Repr

/-- Why the model gives no next state. -/
inductive Refusal where
  /-- An instruction with no meaning yet, by its mnemonic. Safe: nothing can be proved of what it does. No arm raises
  it. -/
  | notModelled (mnemonic : String)
  /-- Raised by a host access that is not an aligned 32-bit word: the open parameter SUBWORD_ACCESS, which "a model
  refuses" (R55; log 6). Safe. -/
  | subwordAccess
deriving DecidableEq, Repr

/-- Every entry of EK zero (R220, R182). -/
def zeroEk : ExpandedKey :=
  #v[⟨0, 0⟩, ⟨0, 0⟩, ⟨0, 0⟩, ⟨0, 0⟩, ⟨0, 0⟩, ⟨0, 0⟩, ⟨0, 0⟩, ⟨0, 0⟩,
     ⟨0, 0⟩, ⟨0, 0⟩, ⟨0, 0⟩, ⟨0, 0⟩, ⟨0, 0⟩, ⟨0, 0⟩, ⟨0, 0⟩, ⟨0, 0⟩]

/-- The state right after reset (R220), with nothing yet to come from outside. -/
def State.reset : State where
  keyHi := 0
  keyLo := 0
  count := 0
  dinL := 0
  dinR := 0
  doutL := 0
  doutR := 0
  smask := 0
  val := 0
  char := 0
  err := false
  errCode := .none
  ok := false
  kv := false
  ek := zeroEk
  pending := none
  inputs := []
  returned := []
  draws := 0

end Sys2Proof.Machine
end

