-- ==== Sys2Proof/Machine/Ops.lean ====
section
/-! DEFINITION. The named operations over the state: bit-field helpers of R8 and R9, the register updates, recording an
error and clearing the record (R202, R180), accepting and completing a command (R225, R224), zeroization (R182) and
reset (R221). -/

namespace Sys2Proof.Machine

/-- perm(v, T, w) (R9): the m-bit value whose DES bit k is DES bit T[k] of v. DES bit n of v is `v[w-n]`, which is
`v.getMsbD (n - 1)`. -/
def perm {w : Nat} (m : Nat) (table : List Nat) (v : BitVec w) : BitVec m :=
  (BitVec.ofBoolListBE (table.map fun n => v.getMsbD (n - 1))).setWidth m

/-- rol28(x, s) (R9): the 28-bit left rotation, 0 <= s <= 28. -/
def rol28 (x : BitVec 28) (s : Nat) : BitVec 28 :=
  (x <<< s) ||| (x >>> (28 - s))

namespace State

/-- STATUS.BUSY (R34): 1 exactly while a command is pending. -/
def busy (s : State) : Bool := s.pending.isSome

/-- The host write of KEY_HI (R52). -/
def setKeyHi (s : State) (v : Word) : State := { s with keyHi := v }

/-- The host write of KEY_LO (R52). -/
def setKeyLo (s : State) (v : Word) : State := { s with keyLo := v }

/-- The host write of COUNT (R52). -/
def setCount (s : State) (v : Word) : State := { s with count := v }

/-- The host write of DIN_L (R52). -/
def setDinL (s : State) (v : Word) : State := { s with dinL := v }

/-- The host write of DIN_R (R52). -/
def setDinR (s : State) (v : Word) : State := { s with dinR := v }

/-- DESRUN's update of DOUT_L and DOUT_R (R150). -/
def setDout (s : State) (l r : Word) : State := { s with doutL := l, doutR := r }

/-- SALTX's update of SMASK (R120). -/
def setSmask (s : State) (m : Half24) : State := { s with smask := m }

/-- ENC's update of CODEC.CHAR; VAL is unchanged (R102). -/
def setChar (s : State) (c : Byte) : State := { s with char := c }

/-- DEC's update of CODEC.VAL and STATUS.OK; CHAR is unchanged (R104). -/
def setVal (s : State) (v : BitVec 6) (ok : Bool) : State := { s with val := v, ok := ok }

/-- KSCHED's update of EK, which makes it valid (R130). -/
def setEk (s : State) (ek : ExpandedKey) : State := { s with ek := ek, kv := true }

/-- raise Error(code) (R202): the first error since ERR was last 0 is kept; nothing else changes. -/
def raiseError (s : State) (code : ErrCode) : State :=
  { s with err := true, errCode := if s.err then s.errCode else code }

/-- The return from an error (R207): CLRERR clears the record (R180). -/
def clearError (s : State) : State := { s with err := false, errCode := .none }

/-- Acceptance (R71, R225): the command becomes pending with its operands fixed, which sets BUSY. -/
def accept (s : State) (i : Instr) (ops : Operands) (wait : Nat) : State :=
  { s with pending := some ⟨i, ops, wait⟩ }

/-- Completion (R224): the pending command is cleared, which sets BUSY to 0. -/
def complete (s : State) : State := { s with pending := none }

/-- ZEROIZE's update (R182): every secret-derived value becomes 0; ERR and ERRCODE are kept. -/
def scrub (s : State) : State :=
  { s with
    keyHi := 0, keyLo := 0, count := 0, dinL := 0, dinR := 0, doutL := 0, doutR := 0, smask := 0,
    val := 0, char := 0, ok := false, kv := false, ek := zeroEk }

/-- Reset asserted while the machine runs (R221): a pending command is abandoned and all of DESC holds its reset value.
What the host has yet to do and what it has read are not DESC's (log 11). -/
def restart (s : State) : State :=
  { State.reset with inputs := s.inputs, returned := s.returned, draws := s.draws }

/-- The outside's operations still to come (log 1). -/
def setInputs (s : State) (l : List HostOp) : State := { s with inputs := l }

/-- A read returns its value to the host (R51; log 4). -/
def give (s : State) (v : Word) : State := { s with returned := v :: s.returned }

/-- An unspecified read returns the next free value (R226; log 3). -/
def giveDraw (s : State) : State :=
  { s with returned := Config.draw s.draws :: s.returned, draws := s.draws + 1 }

end State

end Sys2Proof.Machine
end

