-- ==== Sys2Proof/Machine/Operands.lean ====
section
/-! DEFINITION. The operands of a command: the operand field's value comes with the command (R73), and the registers a
command reads (R37) are those fixed at its acceptance while it is pending (R225). -/

namespace Sys2Proof.Machine

/-- The registers commands read, as they stand now (R37). -/
def State.live (s : State) : Operands :=
  ⟨s.keyHi, s.keyLo, s.count, s.dinL, s.dinR, s.smask, s.kv, s.ek⟩

/-- The register operands of the command that runs: fixed at acceptance where it is pending (R225), else the
registers themselves. -/
def State.operands (s : State) : Operands :=
  match s.pending with
  | some p => p.ops
  | none => s.live

namespace Operands

/-- The 64-bit key KEY_HI ++ KEY_LO (R24, R130). -/
def key (o : Operands) : BitVec 64 := o.keyHi ++ o.keyLo

/-- The 64-bit input block DIN_L ++ DIN_R (R26, R150). -/
def din (o : Operands) : BitVec 64 := o.dinL ++ o.dinR

end Operands

end Sys2Proof.Machine
end

