-- ==== Sys2Proof/Machine/Codec.lean ====
section
/-! DEFINITION. The Alphabet Codec: the crypt alphabet (R100), ENC (R102), the decode function (R103), DEC (R104). -/

namespace Sys2Proof.Machine

/-- The crypt alphabet A64, value 0 to 63 in order (R100). -/
def alphabet : List Byte :=
  [0x2E, 0x2F, 0x30, 0x31, 0x32, 0x33, 0x34, 0x35, 0x36, 0x37, 0x38, 0x39, 0x41, 0x42, 0x43, 0x44]
    ++ [0x45, 0x46, 0x47, 0x48, 0x49, 0x4A, 0x4B, 0x4C, 0x4D, 0x4E, 0x4F, 0x50, 0x51, 0x52, 0x53, 0x54]
    ++ [0x55, 0x56, 0x57, 0x58, 0x59, 0x5A, 0x61, 0x62, 0x63, 0x64, 0x65, 0x66, 0x67, 0x68, 0x69, 0x6A]
    ++ [0x6B, 0x6C, 0x6D, 0x6E, 0x6F, 0x70, 0x71, 0x72, 0x73, 0x74, 0x75, 0x76, 0x77, 0x78, 0x79, 0x7A]

/-- A64[v] (R100). -/
def a64 (v : BitVec 6) : Byte := alphabet.getD v.toNat 0

/-- decode(c) (R103): the byte is read as signed, and the low 6 bits of the 32-bit difference are the value. -/
def decodeChar (c : Byte) : BitVec 6 :=
  let s : Word := c.signExtend 32
  let t : Word :=
    if (0x61 : Word).sle s then s - 59
    else if (0x41 : Word).sle s then s - 53
    else s - 46
  t.extractLsb' 0 6

/-- ENC v (R102): CODEC.CHAR becomes A64[v]. -/
def execEnc (v : BitVec 6) (s : State) : Host.Outcome State Fault Refusal :=
  .next (s.setChar (a64 v)).complete

/-- DEC c (R104): CODEC.VAL becomes decode(c), and OK says whether A64[VAL] = c. -/
def execDec (c : Byte) (s : State) : Host.Outcome State Fault Refusal :=
  .next (s.setVal (decodeChar c) (a64 (decodeChar c) == c)).complete

end Sys2Proof.Machine
end

