-- ==== Sys2Proof/Machine/Control.lean ====
section
/-! DEFINITION. The control commands: CLRERR (R180) and ZEROIZE (R182). -/

namespace Sys2Proof.Machine

/-- CLRERR (R180): ERR and ERRCODE become 0. -/
def execClrerr (s : State) : Host.Outcome State Fault Refusal :=
  .next s.clearError.complete

/-- ZEROIZE (R182): every secret-derived value becomes 0. The operands captured with the command go with it. -/
def execZeroize (s : State) : Host.Outcome State Fault Refusal :=
  .next s.scrub.complete

end Sys2Proof.Machine
end

