-- ==== Sys2Proof/Machine/Feistel.lean ====
section
/-! DEFINITION. The Feistel Engine: its tables (R151, R153, R155, R156, R159), the round function (R157), steps and
passes (R158), and DESRUN (R150, R160). -/

namespace Sys2Proof.Machine

/-- The two halves of a block (R158). -/
structure Halves where
  l : Word
  r : Word
deriving DecidableEq, Repr

/-- IP (R151). -/
def ip : List Nat :=
  [58, 50, 42, 34, 26, 18, 10, 2,
   60, 52, 44, 36, 28, 20, 12, 4,
   62, 54, 46, 38, 30, 22, 14, 6,
   64, 56, 48, 40, 32, 24, 16, 8]
  ++
  [57, 49, 41, 33, 25, 17, 9, 1,
   59, 51, 43, 35, 27, 19, 11, 3,
   61, 53, 45, 37, 29, 21, 13, 5,
   63, 55, 47, 39, 31, 23, 15, 7]

/-- E, the DES expansion (R153). -/
def eTable : List Nat :=
  [32, 1, 2, 3, 4, 5,
   4, 5, 6, 7, 8, 9,
   8, 9, 10, 11, 12, 13,
   12, 13, 14, 15, 16, 17]
  ++
  [16, 17, 18, 19, 20, 21,
   20, 21, 22, 23, 24, 25,
   24, 25, 26, 27, 28, 29,
   28, 29, 30, 31, 32, 1]

/-- P (R156). -/
def pTable : List Nat :=
  [16, 7, 20, 21, 29, 12, 28, 17,
   1, 15, 23, 26, 5, 18, 31, 10,
   2, 8, 24, 14, 32, 27, 3, 9,
   19, 13, 30, 6, 22, 11, 4, 25]

/-- FP (R159). -/
def fp : List Nat :=
  [40, 8, 48, 16, 56, 24, 64, 32,
   39, 7, 47, 15, 55, 23, 63, 31,
   38, 6, 46, 14, 54, 22, 62, 30,
   37, 5, 45, 13, 53, 21, 61, 29]
  ++
  [36, 4, 44, 12, 52, 20, 60, 28,
   35, 3, 43, 11, 51, 19, 59, 27,
   34, 2, 42, 10, 50, 18, 58, 26,
   33, 1, 41, 9, 49, 17, 57, 25]

/-- S1, rows 0 to 3 (R155). -/
def s1 : List (List (BitVec 4)) :=
  [[14, 4, 13, 1, 2, 15, 11, 8, 3, 10, 6, 12, 5, 9, 0, 7],
   [0, 15, 7, 4, 14, 2, 13, 1, 10, 6, 12, 11, 9, 5, 3, 8],
   [4, 1, 14, 8, 13, 6, 2, 11, 15, 12, 9, 7, 3, 10, 5, 0],
   [15, 12, 8, 2, 4, 9, 1, 7, 5, 11, 3, 14, 10, 0, 6, 13]]

/-- S2, rows 0 to 3 (R155). -/
def s2 : List (List (BitVec 4)) :=
  [[15, 1, 8, 14, 6, 11, 3, 4, 9, 7, 2, 13, 12, 0, 5, 10],
   [3, 13, 4, 7, 15, 2, 8, 14, 12, 0, 1, 10, 6, 9, 11, 5],
   [0, 14, 7, 11, 10, 4, 13, 1, 5, 8, 12, 6, 9, 3, 2, 15],
   [13, 8, 10, 1, 3, 15, 4, 2, 11, 6, 7, 12, 0, 5, 14, 9]]

/-- S3, rows 0 to 3 (R155). -/
def s3 : List (List (BitVec 4)) :=
  [[10, 0, 9, 14, 6, 3, 15, 5, 1, 13, 12, 7, 11, 4, 2, 8],
   [13, 7, 0, 9, 3, 4, 6, 10, 2, 8, 5, 14, 12, 11, 15, 1],
   [13, 6, 4, 9, 8, 15, 3, 0, 11, 1, 2, 12, 5, 10, 14, 7],
   [1, 10, 13, 0, 6, 9, 8, 7, 4, 15, 14, 3, 11, 5, 2, 12]]

/-- S4, rows 0 to 3 (R155). -/
def s4 : List (List (BitVec 4)) :=
  [[7, 13, 14, 3, 0, 6, 9, 10, 1, 2, 8, 5, 11, 12, 4, 15],
   [13, 8, 11, 5, 6, 15, 0, 3, 4, 7, 2, 12, 1, 10, 14, 9],
   [10, 6, 9, 0, 12, 11, 7, 13, 15, 1, 3, 14, 5, 2, 8, 4],
   [3, 15, 0, 6, 10, 1, 13, 8, 9, 4, 5, 11, 12, 7, 2, 14]]

/-- S5, rows 0 to 3 (R155). -/
def s5 : List (List (BitVec 4)) :=
  [[2, 12, 4, 1, 7, 10, 11, 6, 8, 5, 3, 15, 13, 0, 14, 9],
   [14, 11, 2, 12, 4, 7, 13, 1, 5, 0, 15, 10, 3, 9, 8, 6],
   [4, 2, 1, 11, 10, 13, 7, 8, 15, 9, 12, 5, 6, 3, 0, 14],
   [11, 8, 12, 7, 1, 14, 2, 13, 6, 15, 0, 9, 10, 4, 5, 3]]

/-- S6, rows 0 to 3 (R155). -/
def s6 : List (List (BitVec 4)) :=
  [[12, 1, 10, 15, 9, 2, 6, 8, 0, 13, 3, 4, 14, 7, 5, 11],
   [10, 15, 4, 2, 7, 12, 9, 5, 6, 1, 13, 14, 0, 11, 3, 8],
   [9, 14, 15, 5, 2, 8, 12, 3, 7, 0, 4, 10, 1, 13, 11, 6],
   [4, 3, 2, 12, 9, 5, 15, 10, 11, 14, 1, 7, 6, 0, 8, 13]]

/-- S7, rows 0 to 3 (R155). -/
def s7 : List (List (BitVec 4)) :=
  [[4, 11, 2, 14, 15, 0, 8, 13, 3, 12, 9, 7, 5, 10, 6, 1],
   [13, 0, 11, 7, 4, 9, 1, 10, 14, 3, 5, 12, 2, 15, 8, 6],
   [1, 4, 11, 13, 12, 3, 7, 14, 10, 15, 6, 8, 0, 5, 9, 2],
   [6, 11, 13, 8, 1, 4, 10, 7, 9, 5, 0, 15, 14, 2, 3, 12]]

/-- S8, rows 0 to 3 (R155). -/
def s8 : List (List (BitVec 4)) :=
  [[13, 2, 8, 4, 6, 15, 11, 1, 10, 9, 3, 14, 5, 0, 12, 7],
   [1, 15, 13, 8, 10, 3, 7, 4, 12, 5, 6, 11, 0, 14, 9, 2],
   [7, 11, 4, 1, 9, 12, 14, 2, 0, 6, 10, 13, 15, 3, 5, 8],
   [2, 1, 14, 7, 4, 10, 8, 13, 15, 12, 9, 0, 3, 5, 6, 11]]

/-- Sj(b) (R155): row b1 b6, column b2 b3 b4 b5, b1 the most significant bit of the group. -/
def sEntry (table : List (List (BitVec 4))) (b : BitVec 6) : BitVec 4 :=
  let row := BitVec.ofBool (b.getLsbD 5) ++ BitVec.ofBool (b.getLsbD 0)
  (table.getD row.toNat []).getD (b.extractLsb' 1 4).toNat 0

/-- S1(g1) ++ ... ++ S8(g8), group j being x[53-6j : 48-6j] (R155). -/
def sBoxes (x : BitVec 48) : Word :=
  let g (j : Nat) : BitVec 6 := x.extractLsb' (48 - 6 * j) 6
  sEntry s1 (g 1) ++ sEntry s2 (g 2) ++ sEntry s3 (g 3) ++ sEntry s4 (g 4)
    ++ sEntry s5 (g 5) ++ sEntry s6 (g 6) ++ sEntry s7 (g 7) ++ sEntry s8 (g 8)

/-- r48l, the E-box's DES bits 1 to 24 (R153). -/
def eLeft (r : Word) : Half24 := (perm 48 eTable r).extractLsb' 24 24

/-- r48r, the E-box's DES bits 25 to 48 (R153). -/
def eRight (r : Word) : Half24 := (perm 48 eTable r).extractLsb' 0 24

/-- Salting and key mixing (R154): r48l ++ r48r after the exchange the mask selects and the subkey's XOR. -/
def mix (a b : Half24) (k : SubKey) (m : Half24) : BitVec 48 :=
  let f := (a ^^^ b) &&& m
  (a ^^^ f ^^^ k.l) ++ (b ^^^ f ^^^ k.r)

/-- The round function F (R157). -/
def roundF (r : Word) (k : SubKey) (m : Half24) : Word :=
  perm 32 pTable (sBoxes (mix (eLeft r) (eRight r) k m))

/-- One Feistel step (R158): (l, r) becomes (r, l ^ F(r)). -/
def feistelStep (m : Half24) (h : Halves) (k : SubKey) : Halves := ⟨h.r, h.l ^^^ roundF h.r k m⟩

/-- One pass (R158): the 16 steps in order, then one exchange that undoes the last swap. -/
def pass (ek : ExpandedKey) (m : Half24) (h : Halves) : Halves :=
  let t := ek.toList.foldl (feistelStep m) h
  ⟨t.r, t.l⟩

/-- n passes with the same EK and mask (R158). -/
def passes (ek : ExpandedKey) (m : Half24) : Nat → Halves → Halves
  | 0, h => h
  | n + 1, h => passes ek m n (pass ek m h)

/-- split32(perm(v, IP, 64)) (R150, R151). -/
def initial (v : BitVec 64) : Halves :=
  let y : BitVec 64 := perm 64 ip v
  ⟨y.extractLsb' 32 32, y.extractLsb' 0 32⟩

/-- perm(l ++ r, FP, 64) (R159). -/
def final (h : Halves) : BitVec 64 := perm 64 fp (h.l ++ h.r)

/-- The output block of `count` salted DES passes over a block (R150). -/
def desRun (ek : ExpandedKey) (m : Half24) (count : Nat) (din : BitVec 64) : BitVec 64 :=
  final (passes ek m count (initial din))

/-- DESRUN (R150): DOUT becomes the output block. With KV = 0 it raises NO_KEY and runs no pass (R160); a pending
DESRUN had KV = 1 at its acceptance, which is then what counts (R225; log 10). -/
def execDesrun (s : State) : Host.Outcome State Fault Refusal :=
  let o := s.operands
  if o.kv then
    let y := desRun o.ek o.smask o.count.toNat o.din
    .next (s.setDout (y.extractLsb' 32 32) (y.extractLsb' 0 32)).complete
  else .next (s.raiseError .noKey).complete

end Sys2Proof.Machine
end

