-- ==== Sys2Proof/Machine/KeySched.lean ====
section
/-! DEFINITION. The Key Scheduler: its tables (R132, R134, R136), the schedule of a key, and KSCHED (R130). -/

namespace Sys2Proof.Machine

/-- PC-1 (R132). -/
def pc1 : List Nat :=
  [57, 49, 41, 33, 25, 17, 9,
   1, 58, 50, 42, 34, 26, 18,
   10, 2, 59, 51, 43, 35, 27,
   19, 11, 3, 60, 52, 44, 36]
  ++
  [63, 55, 47, 39, 31, 23, 15,
   7, 62, 54, 46, 38, 30, 22,
   14, 6, 61, 53, 45, 37, 29,
   21, 13, 5, 28, 20, 12, 4]

/-- The left-rotation amounts of rounds 1 to 16 (R134). -/
def shifts : List Nat := [1, 1, 2, 2, 2, 2, 2, 2, 1, 2, 2, 2, 2, 2, 2, 1]

/-- The cumulative amount of the round with index i = 0..15: the sum of the first i + 1 shifts, CUM[i+1] (R134). -/
def cum (i : Nat) : Nat := (shifts.take (i + 1)).sum

/-- PC-2 (R136). -/
def pc2 : List Nat :=
  [14, 17, 11, 24, 1, 5,
   3, 28, 15, 6, 21, 10,
   23, 19, 12, 4, 26, 8,
   16, 7, 27, 20, 13, 2]
  ++
  [41, 52, 31, 37, 47, 55,
   30, 40, 51, 45, 33, 48,
   44, 49, 39, 56, 34, 53,
   46, 42, 50, 36, 29, 32]

/-- C0, the first 28 output bits of PC-1 (R133). -/
def c0 (key : BitVec 64) : BitVec 28 := (perm 56 pc1 key).extractLsb' 28 28

/-- D0, the last 28 output bits of PC-1 (R133). -/
def d0 (key : BitVec 64) : BitVec 28 := (perm 56 pc1 key).extractLsb' 0 28

/-- PC-2 of Ci ++ Di, cut into the left and right subkey half (R136). -/
def subKeyOf (c d : BitVec 28) : SubKey :=
  let k : BitVec 48 := perm 48 pc2 (c ++ d)
  ⟨k.extractLsb' 24 24, k.extractLsb' 0 24⟩

/-- The subkey pair of the round with index i = 0..15: both halves of the key rotated by the cumulative amount
(R130, R135). -/
def subKey (c d : BitVec 28) (i : Nat) : SubKey := subKeyOf (rol28 c (cum i)) (rol28 d (cum i))

/-- The 16 subkey pairs of a 64-bit key (R130). -/
def schedule (key : BitVec 64) : ExpandedKey :=
  let k := subKey (c0 key) (d0 key)
  #v[k 0, k 1, k 2, k 3, k 4, k 5, k 6, k 7, k 8, k 9, k 10, k 11, k 12, k 13, k 14, k 15]

/-- KSCHED (R130): EK becomes the schedule of KEY_HI ++ KEY_LO, and KV becomes 1. -/
def execKsched (s : State) : Host.Outcome State Fault Refusal :=
  .next (s.setEk (schedule s.operands.key)).complete

end Sys2Proof.Machine
end

