-- ==== Sys2Proof/Machine/Salt.lean ====
section
/-! DEFINITION. The Salt Expander: the salt-to-mask map (R121) and SALTX (R120). -/

namespace Sys2Proof.Machine

/-- saltexp(s) (R121), its 24 significant bits (C1): mask bit 23 - i is salt bit i. -/
def saltexp (s : Half24) : Half24 :=
  BitVec.ofBoolListBE ((List.range 24).map fun i => s.getLsbD i) |>.setWidth 24

/-- SALTX s (R120): SMASK becomes saltexp(s). -/
def execSaltx (salt : Half24) (s : State) : Host.Outcome State Fault Refusal :=
  .next (s.setSmask (saltexp salt)).complete

end Sys2Proof.Machine
end

