-- ==== Sys2Proof/Machine/Dispatch.lean ====
section
/-! DEFINITION. exec: a command run to its completion, one arm per command. -/

namespace Sys2Proof.Machine

def exec (i : Instr) (s : State) : Host.Outcome State Fault Refusal :=
  match i with
  | .ksched => Sys2Proof.Machine.execKsched s
  | .saltx salt => Sys2Proof.Machine.execSaltx salt s
  | .desrun => Sys2Proof.Machine.execDesrun s
  | .enc v => Sys2Proof.Machine.execEnc v s
  | .dec c => Sys2Proof.Machine.execDec c s
  | .clrerr => Sys2Proof.Machine.execClrerr s
  | .zeroize => Sys2Proof.Machine.execZeroize s

end Sys2Proof.Machine
end

