-- ==== Sys2Proof/Machine/Flags.lean ====
section
/-! DEFINITION. The STATUS register: its ERRCODE field's codes (R201) and its word as a read returns it (R23). The one
flag a command computes, DEC's OK, stands with DEC in Codec.lean. -/

namespace Sys2Proof.Machine

/-- The 4-bit code of an error (R201). -/
def ErrCode.bits : ErrCode → BitVec 4
  | .none => 0
  | .illegalCmd => 1
  | .noKey => 2
  | .busyWrite => 3

/-- STATUS as a read returns it (R23): BUSY bit 0, ERR bit 1, OK bit 2, KV bit 3, ERRCODE bits 11:8, the rest 0. -/
def State.status (s : State) : Word :=
  (0 : BitVec 20) ++ s.errCode.bits ++ (0 : BitVec 4)
    ++ BitVec.ofBool s.kv ++ BitVec.ofBool s.ok ++ BitVec.ofBool s.err ++ BitVec.ofBool s.busy

end Sys2Proof.Machine
end

