-- ==== Sys2Proof/Machine/Window.lean ====
section
/-! DEFINITION. The register window: which slot an access names (R20), what a read returns (R51, R226), what a write
does (R52, R226), how a command word is accepted (R71), and where the window sits on the host's bus (R7, R50). -/

namespace Sys2Proof.Machine

/-- The slots of the window (R20). -/
inductive Slot where
  | id
  | cmd
  | status
  | keyHi
  | keyLo
  | count
  | dinL
  | dinR
  | doutL
  | doutR
  | smask
  | codec
  | reserved
deriving DecidableEq, Repr

/-- The slot a word access names (R20); none for an access that is not an aligned 32-bit word (R55). -/
def slotAt (a : Access) : Option Slot :=
  if a.size = .word then
    match a.off.toNat with
    | 0x00 => some .id
    | 0x04 => some .cmd
    | 0x08 => some .status
    | 0x0C => some .keyHi
    | 0x10 => some .keyLo
    | 0x14 => some .count
    | 0x18 => some .dinL
    | 0x1C => some .dinR
    | 0x20 => some .doutL
    | 0x24 => some .doutR
    | 0x28 => some .smask
    | 0x2C => some .codec
    | 0x30 | 0x34 | 0x38 | 0x3C => some .reserved
    | _ => none
  else none

/-- CODEC as a read returns it (R29): VAL in bits 5:0, CHAR in bits 15:8, the rest 0. -/
def State.codec (s : State) : Word :=
  (0 : BitVec 16) ++ s.char ++ (0 : BitVec 2) ++ s.val

/-- The value a slot reads as (R20 to R29); a write-only or reserved slot reads 0 (R21). -/
def readSlot (s : State) : Slot → Word
  | .id => Config.idValue
  | .cmd => 0
  | .status => s.status
  | .keyHi => 0
  | .keyLo => 0
  | .count => s.count
  | .dinL => s.dinL
  | .dinR => s.dinR
  | .doutL => s.doutL
  | .doutR => s.doutR
  | .smask => s.smask.setWidth 32
  | .codec => s.codec
  | .reserved => 0

/-- A host read: while BUSY = 1 only ID and STATUS return their values and any other read is a draw (R226), otherwise
the slot's value (R51). -/
def hostRead (a : Access) (s : State) : Host.Outcome State Fault Refusal :=
  match slotAt a with
  | none => .refused .subwordAccess
  | some slot =>
    if s.busy ∧ slot ≠ .id ∧ slot ≠ .status then .next s.giveDraw
    else .next (s.give (readSlot s slot))

/-- Acceptance of a decoded command whose completion is a later step (R71): NO_KEY for DESRUN with KV = 0 (R160),
otherwise it becomes pending with its operands fixed (R225). -/
def issue (i : Instr) (wait : Nat) (s : State) : State :=
  if i = .desrun ∧ s.kv = false then s.raiseError .noKey
  else s.accept i s.live wait

/-- A write of word w to CMD with BUSY = 0 (R71). An illegal word raises ILLEGAL_CMD. A command of latency 0 completes
in this step, before any other access; one of latency n + 1 completes n + 1 steps later (R228; log 2). -/
def command (w : Word) (lat : Nat) (s : State) : Host.Outcome State Fault Refusal :=
  match decode w with
  | .error _ => .next (s.raiseError .illegalCmd)
  | .ok i =>
    match lat with
    | 0 => exec i s
    | n + 1 => .next (issue i n s)

/-- The write of an idle block's slot (R52): read-only and reserved slots ignore it (R21). -/
def writeSlot (v : Word) (lat : Nat) (s : State) : Slot → Host.Outcome State Fault Refusal
  | .id => .next s
  | .cmd => command v lat s
  | .status => .next s
  | .keyHi => .next (s.setKeyHi v)
  | .keyLo => .next (s.setKeyLo v)
  | .count => .next (s.setCount v)
  | .dinL => .next (s.setDinL v)
  | .dinR => .next (s.setDinR v)
  | .doutL => .next s
  | .doutR => .next s
  | .smask => .next s
  | .codec => .next s
  | .reserved => .next s

/-- A host write: while BUSY = 1 it is dropped and raises BUSY_WRITE (R226), before anything is decoded (R205). -/
def hostWrite (a : Access) (v : Word) (lat : Nat) (s : State) : Host.Outcome State Fault Refusal :=
  match slotAt a with
  | none => .refused .subwordAccess
  | some slot =>
    if s.busy then .next (s.raiseError .busyWrite) else writeSlot v lat s slot

/-- One operation from outside, already taken off the inputs; WAIT stays the next one while BUSY = 1 (R82; log 5). -/
def hostAct (op : HostOp) (s : State) : Host.Outcome State Fault Refusal :=
  match op with
  | .read a => hostRead a s
  | .write a v lat => hostWrite a v lat s
  | .wait => .next (if s.busy then s.setInputs (.wait :: s.inputs) else s)
  | .reset => .next s.restart

/-- The outside's turn: its next operation, or nothing where it has none (log 15). -/
def hostTurn (s : State) : Host.Outcome State Fault Refusal :=
  match s.inputs with
  | [] => .next s
  | op :: rest => hostAct op (s.setInputs rest)

/-- The pending command has one step less to wait. -/
def State.tick (s : State) (p : Pending) (n : Nat) : State :=
  { s with pending := some { p with wait := n } }

/-- The access to the window that a host access at a bus address is, DESC_BASE + off; none outside the window, where the
access is the platform's (R50, R51, R57). DESIGN CHOICE (log 21): the address where an access starts decides. The
specification does not say whether an access that starts below DESC_BASE and reaches into the window (64 bits at
DESC_BASE - 4, a misaligned word at DESC_BASE - 2) is an access to the window; here it is the platform's and no input of
DESC. One that starts in the window and reaches past its end is an access to the window, which R55 refuses. -/
def onBus (size : AccessSize) (addr : Nat) : Option Access :=
  if Config.descBase ≤ addr ∧ addr < Config.descBase + Config.windowBytes then
    some ⟨size, BitVec.ofNat 6 (addr - Config.descBase)⟩
  else none

/-- An aligned 32-bit access at an offset (R55). -/
def wordAt (off : BitVec 6) : Access := ⟨.word, off⟩

end Sys2Proof.Machine
end

