-- ==== Sys2Proof/Machine/Step.lean ====
section
/-! DEFINITION. One step of the machine: the engine's completion of the pending command when its wait is over (R224),
otherwise one operation from outside (R13, R59). -/

namespace Sys2Proof.Machine

/-- One step. Plain data says which agent moves next: the engine when the pending command waits no longer, else the
outside (R13; log 2). -/
def step (s : State) : Host.Outcome State Fault Refusal :=
  match s.pending with
  | none => hostTurn s
  | some p =>
    match p.wait with
    | 0 => exec p.instr s
    | n + 1 => hostTurn (s.tick p n)

/-- An idle block whose next input is the host's write of the word to CMD, with latency 0, so that the very next step
decodes it and runs it (log 12). Every bit above `nbits` is 0. -/
def State.withFetchWord (s : State) (nbits w : Nat) : State :=
  { s with
    pending := none
    inputs := .write (wordAt 0x04) (BitVec.ofNat 32 (w % 2 ^ nbits)) 0 :: s.inputs }

end Sys2Proof.Machine
end

