-- ==== Sys2Proof/WellFormed.lean ====
section
/-! DEFINITION. The two well-formedness checks of the spec: `legal`, which words are commands (R75), and the range
check of a written command's operand, which "refuses an operand out of range rather than truncating it" (R81). -/

namespace Sys2Proof

/-- The must-be-zero operand bits of an assigned opcode's form are 0, and the opcode is assigned (R72, R73, R75). -/
def legal (opc : BitVec 8) (opnd : BitVec 24) : Bool :=
  (opc == 0x02)
    || ((opc == 0x01 || opc == 0x03 || opc == 0x0E || opc == 0x0F) && opnd == 0)
    || (opc == 0x04 && opnd &&& 0xFFFFC0 == 0)
    || (opc == 0x05 && opnd &&& 0xFFFF00 == 0)

/-- A command as it is written in an assembly line, its operand any number (R81). -/
inductive AsmCommand where
  | ksched
  | saltx (s : Nat)
  | desrun
  | enc (v : Nat)
  | dec (c : Nat)
  | clrerr
  | zeroize
deriving DecidableEq, Repr

/-- The operand is in the range of its form: 0 <= s < 2^24, 0 <= v < 64, 0 <= c < 256 (R81). -/
def AsmCommand.wf : AsmCommand → Bool
  | .ksched => true
  | .saltx s => decide (s < 2 ^ 24)
  | .desrun => true
  | .enc v => decide (v < 64)
  | .dec c => decide (c < 256)
  | .clrerr => true
  | .zeroize => true

/-- The command a written line stands for, its operand cut to the form's width; meant for well-formed lines. -/
def AsmCommand.instr : AsmCommand → Instr
  | .ksched => .ksched
  | .saltx s => .saltx (BitVec.ofNat 24 s)
  | .desrun => .desrun
  | .enc v => .enc (BitVec.ofNat 6 v)
  | .dec c => .dec (BitVec.ofNat 8 c)
  | .clrerr => .clrerr
  | .zeroize => .zeroize

/-- The assembler (R81): the command's word, or nothing where an operand is out of range. -/
def assemble (a : AsmCommand) : Option Word :=
  if a.wf then some (encode a.instr) else none

end Sys2Proof
end

