-- ==== Sys2Proof/Machine/Program.lean ====
section
/-! DEFINITION. The lines of a host program (R80) and what each of them does to the window (R80, R82). A LET line and a
label reach no window, so they have no line here (log 17). -/

namespace Sys2Proof.Machine

/-- The registers a line can name (R80), by their names in R20. -/
inductive Reg where
  | id
  | cmd
  | status
  | keyHi
  | keyLo
  | count
  | dinL
  | dinR
  | doutL
  | doutR
  | smask
  | codec
deriving DecidableEq, Repr

/-- offset(reg) (R20). -/
def Reg.offset : Reg → BitVec 6
  | .id => 0x00
  | .cmd => 0x04
  | .status => 0x08
  | .keyHi => 0x0C
  | .keyLo => 0x10
  | .count => 0x14
  | .dinL => 0x18
  | .dinR => 0x1C
  | .doutL => 0x20
  | .doutR => 0x24
  | .smask => 0x28
  | .codec => 0x2C

/-- A line of a host program that reaches the window (R80, R82). -/
inductive HostLine where
  /-- WR reg, value. -/
  | wr (r : Reg) (v : Word)
  /-- RD reg -> name. -/
  | rd (r : Reg)
  /-- A command with its operand (R81). -/
  | command (c : AsmCommand)
  /-- WAIT. -/
  | wait
  /-- CHECK. -/
  | check
  /-- LOADKEY kb0..kb7. -/
  | loadkey (kb0 kb1 kb2 kb3 kb4 kb5 kb6 kb7 : Byte)
deriving DecidableEq, Repr

/-- The host operations a line expands to (R80, R82); `lat` is the latency of the command it starts, if it starts one
(log 2). Nothing where the assembler refuses the line (R81). -/
def HostLine.expand (lat : Nat) : HostLine → Option (List HostOp)
  | .wr r v => some [.write (wordAt r.offset) v lat]
  | .rd r => some [.read (wordAt r.offset)]
  | .command c => (assemble c).map fun w => [.write (wordAt Reg.cmd.offset) w lat]
  | .wait => some [.wait]
  | .check => some [.read (wordAt Reg.status.offset)]
  | .loadkey kb0 kb1 kb2 kb3 kb4 kb5 kb6 kb7 =>
    some [.write (wordAt Reg.keyHi.offset) (kb0 ++ kb1 ++ kb2 ++ kb3) lat,
      .write (wordAt Reg.keyLo.offset) (kb4 ++ kb5 ++ kb6 ++ kb7) lat]

end Sys2Proof.Machine
end

