-- ==== Sys2Proof/Safety.lean ====
section
/-! DEFINITION. What the claims speak of: the invariant of every state a run reaches, which operation a step performs
and which command it runs, the host discipline of R227, and the specification's own formulas in forms that differ from
the machine's. -/

namespace Sys2Proof.Machine

/-- What holds of DESC in every state a run reaches. -/
structure State.Inv (s : State) : Prop where
  /-- ERR = 1 exactly when a code is recorded (R201, R202). -/
  errRecord : s.err = true ↔ s.errCode ≠ .none
  /-- The registers a pending command reads cannot change while it is pending (R225, R226). -/
  opsFixed : ∀ p, s.pending = some p → p.ops = s.live
  /-- A DESRUN is pending only with KV = 1 (R71, R160). -/
  desrunKv : ∀ p, s.pending = some p → p.instr = .desrun → s.kv = true
  /-- KV = 1 when EK holds a schedule built by KSCHED (R23). -/
  ekBuilt : s.kv = true → ∃ key, s.ek = schedule key
  /-- With KV = 0 every entry of EK is 0: only reset and ZEROIZE clear KV, and both clear EK (R23, R30, R182, R220). -/
  ekClear : s.kv = false → s.ek = zeroEk
  /-- CODEC.CHAR is 0 or a character of the alphabet (R29, R102). -/
  charInAlphabet : s.char = 0 ∨ s.char ∈ alphabet

/-- The operation from outside that the next step performs: none where it is the engine's turn or nothing is to come. -/
def State.acts (s : State) : Option HostOp :=
  match s.pending with
  | none => s.inputs.head?
  | some p => if p.wait = 0 then none else s.inputs.head?

/-- The command whose effect the next step performs: the pending one at its completion, or the one an idle block is
given with latency 0. -/
def State.runs (s : State) : Option Instr :=
  match s.pending with
  | some p => if p.wait = 0 then some p.instr else none
  | none =>
    match s.inputs with
    | .write a w 0 :: _ =>
      if slotAt a = some .cmd then
        match decode w with
        | .ok i => some i
        | .error _ => none
      else none
    | _ => none

/-- The next step is the host's write of an idle block's slot. -/
def State.writes (s : State) (slot : Slot) : Prop :=
  s.pending = none ∧ ∃ a v lat, s.inputs.head? = some (.write a v lat) ∧ slotAt a = some slot

/-- The error that the next step raises (R201), in the order of R205: a host write while BUSY = 1, an illegal word, or a
DESRUN word while KV = 0. -/
def State.raises (s : State) : Option ErrCode :=
  match s.acts with
  | some (.write a w _) =>
    match slotAt a with
    | none => none
    | some slot =>
      if s.busy then some .busyWrite
      else if slot = .cmd then
        match decode w with
        | .error _ => some .illegalCmd
        | .ok i => if i = .desrun ∧ s.kv = false then some .noKey else none
      else none
  | _ => none

/-- WAIT comes next. -/
def waitNext : List HostOp → Bool
  | .wait :: _ => true
  | _ => false

/-- The host discipline of R227 and R223: every access is an aligned word, and every command write is followed at once
by WAIT. -/
def hazardFree : List HostOp → Bool
  | [] => true
  | .read a :: rest => (slotAt a).isSome && hazardFree rest
  | .write a _ _ :: rest =>
    (slotAt a).isSome && (slotAt a != some .cmd || waitNext rest) && hazardFree rest
  | .wait :: rest => hazardFree rest
  | .reset :: rest => hazardFree rest

/-- A state whose host keeps the discipline: while a command is pending, WAIT is what comes next. -/
def State.Disciplined (s : State) : Prop :=
  hazardFree s.inputs = true ∧ (s.busy = true → waitNext s.inputs = true)

/-- The same operations, every command given latency 0. -/
def zeroLatency (l : List HostOp) : List HostOp :=
  l.map fun op =>
    match op with
    | .write a v _ => .write a v 0
    | .read a => .read a
    | .wait => .wait
    | .reset => .reset

/-- An access that a step refuses (R55). -/
def HostOp.subword : HostOp → Bool
  | .read a => (slotAt a).isNone
  | .write a _ _ => (slotAt a).isNone
  | .wait => false
  | .reset => false

/-- The cumulative shift amounts CUM[1..16] as R134 tabulates them. -/
def cumTable : List Nat := [1, 2, 4, 6, 8, 10, 12, 14, 15, 17, 19, 21, 23, 25, 27, 28]

/-- The crypt alphabet as the source writes it (R100). -/
def alphabetText : List Char :=
  "./0123456789ABCDEFGHIJKLMNOPQRSTUVWXYZabcdefghijklmnopqrstuvwxyz".toList

/-- The bytes of ALPHA (R101). -/
def inAlpha (c : Byte) : Bool :=
  let n := c.toNat
  n == 0x2E || n == 0x2F || (0x30 ≤ n && n ≤ 0x39) || (0x41 ≤ n && n ≤ 0x5A) || (0x61 ≤ n && n ≤ 0x7A)

/-- The parity positions of a key: bit 0 of every key byte (R131). -/
def parityMask : BitVec 64 := 0x0101010101010101

/-- One pass as R150 writes it: for i in 0..15, (l, r) becomes (r, l ^ F(r, EK.L[i], EK.R[i], m)); then one exchange. -/
def passByIndex (ek : ExpandedKey) (m : Half24) (h : Halves) : Halves :=
  let t := (List.finRange 16).foldl (fun h i => ⟨h.r, h.l ^^^ roundF h.r ek[i] m⟩) h
  ⟨t.r, t.l⟩

/-- The combined S-box and P-box table of group j (R157): perm(zext_32(Sj(g)) << (32 - 4j), P, 32). -/
def combinedTable (table : List (List (BitVec 4))) (j : Nat) (g : BitVec 6) : Word :=
  perm 32 pTable (((sEntry table g).setWidth 32 : Word) <<< (32 - 4 * j))

/-- Group j = 1..8 of a 48-bit value (R155). -/
def group (x : BitVec 48) (j : Nat) : BitVec 6 := x.extractLsb' (48 - 6 * j) 6

end Sys2Proof.Machine
end

