-- ==== Sys2Proof/Certificates/Slice0/Obligations.lean ====
section
/-! DEFINITION. The statements for the provers, each from the numbered rules of the specification it cites. Where a
statement speaks of a command's operands it says `s.operands`: the registers themselves on an idle block, the values
fixed at acceptance while the command is pending (R225). -/

open Sys2Proof Sys2Proof.Machine

/-! ## Encoding -/

/-- Decoding the word of any command gives that command back, with every operand (R76, R81). -/
def Obligations.DecodeOfEncodeGivesCommandBack : Prop :=
  ∀ i : Instr, decode (encode i) = .ok i

/-- Every word the decoder accepts is the word of the command it reads: no bit of it is dropped (R76, R81). -/
def Obligations.EncodeOfDecodeGivesWordBack : Prop :=
  ∀ (w : Word) (i : Instr), decode w = .ok i → encode i = w

/-- The seven rows; a word encodes a mnemonic exactly when (w & mask) = match; at most one row matches a word; every other
opcode is illegal (R72). A row is named by its match value, which no other row has. That the decoder names the reason for
such a word, the unassigned opcode, which the fourth clause shows, is the model's choice (log 19). -/
def Obligations.WordEncodesCommandExactlyByItsRow : Prop :=
  (∀ (s : Half24) (v : BitVec 6) (c : Byte),
    [Instr.ksched, .saltx s, .desrun, .enc v, .dec c, .clrerr, .zeroize].map (fun i => (rowMatch i, rowMask i))
      = [(0x01000000, 0xFFFFFFFF), (0x02000000, 0xFF000000), (0x03000000, 0xFFFFFFFF), (0x04000000, 0xFFFFFFC0),
         (0x05000000, 0xFFFFFF00), (0x0E000000, 0xFFFFFFFF), (0x0F000000, 0xFFFFFFFF)])
  ∧ (∀ (w : Word) (i : Instr), w &&& rowMask i = rowMatch i ↔ ∃ j, decode w = .ok j ∧ rowMatch j = rowMatch i)
  ∧ (∀ (w : Word) (i j : Instr),
    w &&& rowMask i = rowMatch i → w &&& rowMask j = rowMatch j → rowMatch i = rowMatch j)
  ∧ (∀ w : Word, (opcOf w).toNat ∉ [0x01, 0x02, 0x03, 0x04, 0x05, 0x0E, 0x0F] →
    decode w = .error (.unassignedOpcode (opcOf w)))

/-- R75: a word is legal exactly when its opcode is assigned and its form's must-be-zero bits are 0; the legal words are
those the decoder accepts; any other word written to an idle block raises ILLEGAL_CMD and has no other effect; and
2^24 + 2^6 + 2^8 + 4 words are legal. -/
def Obligations.LegalWordsAreThoseDecoded : Prop :=
  (∀ w : Word, legal (opcOf w) (opndOf w) = true ↔
    (opcOf w).toNat ∈ [0x01, 0x02, 0x03, 0x04, 0x05, 0x0E, 0x0F]
    ∧ ((opcOf w).toNat ∈ [0x01, 0x03, 0x0E, 0x0F] → ∀ b < 24, (opndOf w).getLsbD b = false)
    ∧ ((opcOf w).toNat = 0x04 → ∀ b < 24, 6 ≤ b → (opndOf w).getLsbD b = false)
    ∧ ((opcOf w).toNat = 0x05 → ∀ b < 24, 8 ≤ b → (opndOf w).getLsbD b = false))
  ∧ (∀ w : Word, (∃ i, decode w = .ok i) ↔ legal (opcOf w) (opndOf w) = true)
  ∧ (∀ (w : Word) (lat : Nat) (s : State), legal (opcOf w) (opndOf w) = false → s.pending = none →
    hostWrite (wordAt 0x04) w lat s
      = .next { s with err := true, errCode := if s.err then s.errCode else .illegalCmd })
  ∧ Nat.card { w : Word // legal (opcOf w) (opndOf w) = true } = 2 ^ 24 + 2 ^ 6 + 2 ^ 8 + 4

/-- Words written out from R72 and R81, one or more of each command, and words that are none, which R76 knows only as
illegal: that the decoder names the reason, which the last five clauses show, is the model's choice (log 19). -/
def Obligations.SampleWordsDecode : Prop :=
  decode 0x01000000 = .ok .ksched
  ∧ decode 0x02FE52C1 = .ok (.saltx 0xFE52C1)
  ∧ decode 0x03000000 = .ok .desrun
  ∧ decode 0x0400003F = .ok (.enc 63)
  ∧ decode 0x050000FF = .ok (.dec 0xFF)
  ∧ decode 0x0E000000 = .ok .clrerr
  ∧ decode 0x0F000000 = .ok .zeroize
  ∧ decode 0x04000040 = .error (.mustBeZero 0x000040)
  ∧ decode 0x05000100 = .error (.mustBeZero 0x000100)
  ∧ decode 0x01000001 = .error (.mustBeZero 0x000001)
  ∧ decode 0x00000000 = .error (.unassignedOpcode 0x00)
  ∧ decode 0x06000000 = .error (.unassignedOpcode 0x06)

/-- R81: the assembler's words, and its refusal of an operand out of range. -/
def Obligations.AssemblerWordsAndRefusals : Prop :=
  assemble .ksched = some 0x01000000
  ∧ (∀ n, assemble (.saltx n) = if n < 2 ^ 24 then some (0x02000000 ||| BitVec.ofNat 32 n) else none)
  ∧ assemble .desrun = some 0x03000000
  ∧ (∀ n, assemble (.enc n) = if n < 64 then some (0x04000000 ||| BitVec.ofNat 32 n) else none)
  ∧ (∀ n, assemble (.dec n) = if n < 256 then some (0x05000000 ||| BitVec.ofNat 32 n) else none)
  ∧ assemble .clrerr = some 0x0E000000
  ∧ assemble .zeroize = some 0x0F000000
  ∧ (∀ (c : AsmCommand) (w : Word), assemble c = some w → decode w = .ok c.instr)

/-! ## A step -/

/-- What a step is. It runs the decoded command: at its completion where it is pending, in the step of the write where its
latency is 0, and it is accepted, to complete later, where its latency is not 0; a word the host's harness places is run
by the very next step (log 2, log 12). Otherwise it is the outside's turn (R59), on an idle block and, after counting the
wait down, while a command waits: the next read or write, whatever its offset and word, is performed as `hostRead` and
`hostWrite` say on the state with that input taken off, and with nothing to come nothing happens. That the inputs are a
list, that an access comes while the wait is not over, and what a step with nothing to come does, are the model's choice
(log 1, log 2, log 15); WAIT and reset have statements of their own. -/
def Obligations.StepRunsTheDecodedCommand : Prop :=
  (∀ (s : State) (p : Pending), s.pending = some p → p.wait = 0 → step s = exec p.instr s)
  ∧ (∀ (s : State) (w : Word) (i : Instr) (rest : List HostOp),
    s.pending = none → s.inputs = .write (wordAt 0x04) w 0 :: rest → decode w = .ok i →
    step s = exec i { s with inputs := rest })
  ∧ (∀ (s : State) (w : Word) (n : Nat) (i : Instr) (rest : List HostOp),
    s.pending = none → s.inputs = .write (wordAt 0x04) w (n + 1) :: rest → decode w = .ok i →
    step s = .next (issue i n { s with inputs := rest }))
  ∧ (∀ (s : State) (nbits w : Nat) (i : Instr), decodeTableWord nbits w = some i →
    step (s.withFetchWord nbits w) = exec i { s with pending := none })
  ∧ (∀ (s : State) (a : Access) (rest : List HostOp), s.pending = none → s.inputs = .read a :: rest →
    step s = hostRead a { s with inputs := rest })
  ∧ (∀ (s : State) (a : Access) (v : Word) (lat : Nat) (rest : List HostOp),
    s.pending = none → s.inputs = .write a v lat :: rest →
    step s = hostWrite a v lat { s with inputs := rest })
  ∧ (∀ s : State, s.pending = none → s.inputs = [] → step s = .next s)
  ∧ (∀ (s : State) (p : Pending) (n : Nat) (a : Access) (rest : List HostOp),
    s.pending = some p → p.wait = n + 1 → s.inputs = .read a :: rest →
    step s = hostRead a { s with inputs := rest, pending := some { p with wait := n } })
  ∧ (∀ (s : State) (p : Pending) (n : Nat) (a : Access) (v : Word) (lat : Nat) (rest : List HostOp),
    s.pending = some p → p.wait = n + 1 → s.inputs = .write a v lat :: rest →
    step s = hostWrite a v lat { s with inputs := rest, pending := some { p with wait := n } })
  ∧ (∀ (s : State) (p : Pending) (n : Nat), s.pending = some p → p.wait = n + 1 → s.inputs = [] →
    step s = .next { s with pending := some { p with wait := n } })

/-- A word written to CMD of an idle block is rejected with ILLEGAL_CMD, or with NO_KEY, which changes nothing but the
error record, or accepted: it becomes pending with the registers it reads and sets BUSY (R71, R225). How long it then
stays pending is the model's choice (log 2), and so is that the captured registers are all that any command reads (log
9): a latency n + 1 leaves it pending, and latency 0 completes the pending command
in the step of the write. -/
def Obligations.CommandAcceptance : Prop :=
  ∀ (s : State) (w : Word), s.pending = none →
    (∀ (e : IllegalWord) (lat : Nat), decode w = .error e →
      hostWrite (wordAt 0x04) w lat s
        = .next { s with err := true, errCode := if s.err then s.errCode else .illegalCmd })
    ∧ (∀ (i : Instr) (lat : Nat), decode w = .ok i → i = .desrun → s.kv = false →
      hostWrite (wordAt 0x04) w lat s
        = .next { s with err := true, errCode := if s.err then s.errCode else .noKey })
    ∧ (∀ (i : Instr) (n : Nat), decode w = .ok i → (i = .desrun → s.kv = true) →
      ∃ t, hostWrite (wordAt 0x04) w (n + 1) s = .next t
        ∧ t = { s with pending := some ⟨i, s.live, n⟩ } ∧ t.status.getLsbD 0 = true)
    ∧ (∀ i : Instr, decode w = .ok i → (i = .desrun → s.kv = true) →
      hostWrite (wordAt 0x04) w 0 s = exec i { s with pending := some ⟨i, s.live, 0⟩ })

/-- R224: the engine's step performs the pending command's effects, clears it and sets BUSY to 0, as one step; and
the state it leaves does not depend on when it comes: it is the state of a completion at once. That the engine moves
exactly where the wait is 0, while R224 enables its step whenever a command is pending, is the model's choice (log 2). -/
def Obligations.CompletionIsOneStepWhateverTheLatency : Prop :=
  (∀ (s : State) (p : Pending), s.pending = some p → p.wait = 0 →
    ∃ t, step s = .next t ∧ exec p.instr s = .next t ∧ t.pending = none ∧ t.status.getLsbD 0 = false
      ∧ t.inputs = s.inputs ∧ t.returned = s.returned ∧ t.draws = s.draws)
  ∧ (∀ (s : State) (i : Instr) (n : Nat), s.pending = none →
    exec i { s with pending := some ⟨i, s.live, n⟩ } = exec i s)

/-- For a host that keeps the discipline of R227, no observation depends on the latencies (R224, R228): whatever they are,
its operations end in the very state that latency 0 gives, and they all complete (R229). The host polls by WAIT, held as
one operation, which is the model's choice (log 5); a host that polls by plain STATUS reads is left out, since the values
it reads tell how often it polled. -/
def Obligations.DisciplinedHostSeesNoLatency : Prop :=
  ∀ s : State, s.pending = none → hazardFree s.inputs = true →
    ∃ (k : Nat) (t : State),
      Host.Core.run core k s = .next t
      ∧ Host.Core.run core s.inputs.length { s with inputs := zeroLatency s.inputs } = .next t
      ∧ t.inputs = [] ∧ t.pending = none

/-- R229: a pending command completes after its latency, whatever the host does meanwhile, unless reset stops it or the
host makes an access that the model refuses. The last step is exec of that command, with the operands captured at its
acceptance, and until then no register has changed but the error record (R225, R226). The wait counter is the model's
choice (log 2). -/
def Obligations.PendingCommandCompletes : Prop :=
  ∀ (s : State) (p : Pending), s.pending = some p →
    (∀ op ∈ s.inputs.take p.wait, op ≠ .reset ∧ op.subword = false) →
    ∃ u t : State,
      Host.Core.run core p.wait s = .next u
      ∧ u = { s with
          err := u.err, errCode := u.errCode, inputs := u.inputs, returned := u.returned, draws := u.draws,
          pending := some { p with wait := 0 } }
      ∧ u.operands = p.ops
      ∧ step u = exec p.instr u
      ∧ exec p.instr u = .next t
      ∧ Host.Core.run core (p.wait + 1) s = .next t
      ∧ t.pending = none

/-! ## The Alphabet Codec -/

/-- R100, R101: the alphabet's bytes are those of the string in its order, they are distinct, and they are ALPHA. -/
def Obligations.AlphabetIsABijection : Prop :=
  (∀ v : BitVec 6, (a64 v).toNat = (alphabetText.getD v.toNat ' ').toNat)
  ∧ (∀ v w : BitVec 6, a64 v = a64 w → v = w)
  ∧ (∀ c : Byte, (∃ v, a64 v = c) ↔ inAlpha c = true)

/-- R102: ENC v leaves A64[v] in CODEC.CHAR and changes nothing else; its word; a nonzero must-be-zero bit is
ILLEGAL_CMD with CODEC unchanged. -/
def Obligations.EncWritesTheCharacter : Prop :=
  (∀ (v : BitVec 6) (s : State),
    decode (0x04000000 + v.setWidth 32) = .ok (.enc v)
    ∧ exec (.enc v) s
      = .next { s with char := BitVec.ofNat 8 (alphabetText.getD v.toNat ' ').toNat, pending := none })
  ∧ (∀ (w : Word) (lat : Nat) (s : State),
    opcOf w = 0x04 → opndOf w &&& 0xFFFFC0 ≠ 0 → s.pending = none →
    hostWrite (wordAt 0x04) w lat s
      = .next { s with err := true, errCode := if s.err then s.errCode else .illegalCmd })

/-- R103, R104: DEC c leaves the low 6 bits of the signed difference in CODEC.VAL (exact integers here), and whether
A64[VAL] = c in STATUS.OK; nothing else changes; the value in its unsigned form; a nonzero must-be-zero bit is
ILLEGAL_CMD with CODEC and OK unchanged. -/
def Obligations.DecWritesValueAndFlag : Prop :=
  (∀ (c : Byte) (s : State),
    let x : Int := if 0x61 ≤ c.toInt then c.toInt - 59 else if 0x41 ≤ c.toInt then c.toInt - 53 else c.toInt - 46
    let v : BitVec 6 := BitVec.ofNat 6 (x % 64).toNat
    decode (0x05000000 + c.setWidth 32) = .ok (.dec c)
    ∧ exec (.dec c) s = .next { s with val := v, ok := decide (a64 v = c), pending := none }
    ∧ v.toNat =
      if c.toNat ≤ 0x40 ∨ 0x80 ≤ c.toNat then (c.toNat + 18) % 64
      else if c.toNat ≤ 0x60 then (c.toNat + 11) % 64
      else (c.toNat + 5) % 64)
  ∧ (∀ (w : Word) (lat : Nat) (s : State),
    opcOf w = 0x05 → opndOf w &&& 0xFFFF00 ≠ 0 → s.pending = none →
    hostWrite (wordAt 0x04) w lat s
      = .next { s with err := true, errCode := if s.err then s.errCode else .illegalCmd })

/-- R105: DEC c sets OK exactly when c is in ALPHA, and then VAL is the index of c in A64. -/
def Obligations.DecFlagIsAlphabetMembership : Prop :=
  ∀ (c : Byte) (s : State), ∃ t, exec (.dec c) s = .next t
    ∧ (t.ok = true ↔ inAlpha c = true)
    ∧ (inAlpha c = true → (alphabetText.getD t.val.toNat ' ').toNat = c.toNat)

/-! ## The Salt Expander -/

/-- R120, R121: SALTX s leaves salt bit i in mask bit 23 - i, the register reads with bits 31:24 equal to 0, and nothing
else changes; every word with opcode 0x02 is a SALTX. -/
def Obligations.SaltxWritesTheReversedSalt : Prop :=
  (∀ (salt : Half24) (s : State), ∃ t, exec (.saltx salt) s = .next t
    ∧ t = { s with smask := t.smask, pending := none }
    ∧ (∀ i < 24, (readSlot t .smask).getLsbD (23 - i) = salt.getLsbD i)
    ∧ (∀ i, 24 ≤ i → (readSlot t .smask).getLsbD i = false))
  ∧ (∀ w : Word, opcOf w = 0x02 → decode w = .ok (.saltx (opndOf w)))

/-- R123: saltexp is its own inverse and a bijection on 24-bit values. -/
def Obligations.SaltexpIsAnInvolution : Prop :=
  (∀ s : Half24, saltexp (saltexp s) = s) ∧ Function.Bijective saltexp

/-! ## The Key Scheduler -/

/-- R130: KSCHED leaves in EK[i-1] the two halves of PC-2 of the key's halves rotated by CUM[i], sets KV, and changes
nothing else; a nonzero operand is ILLEGAL_CMD with EK and KV unchanged. -/
def Obligations.KschedBuildsTheSchedule : Prop :=
  (∀ s : State, ∃ t, exec .ksched s = .next t
    ∧ t = { s with ek := t.ek, kv := true, pending := none }
    ∧ (let cd : BitVec 56 := perm 56 pc1 (s.operands.keyHi ++ s.operands.keyLo)
       ∀ i : Fin 16,
        t.ek[i].l ++ t.ek[i].r
          = (perm 48 pc2
              (rol28 (cd.extractLsb' 28 28) (cumTable.getD i.val 0)
                ++ rol28 (cd.extractLsb' 0 28) (cumTable.getD i.val 0)) : BitVec 48)))
  ∧ decode 0x01000000 = .ok .ksched
  ∧ (∀ (w : Word) (lat : Nat) (s : State), opcOf w = 0x01 → opndOf w ≠ 0 → s.pending = none →
    hostWrite (wordAt 0x04) w lat s
      = .next { s with err := true, errCode := if s.err then s.errCode else .illegalCmd })

/-- R139: EK after KSCHED is a function of the key alone, bit 0 of each byte left out. -/
def Obligations.KschedDependsOnTheKeyAlone : Prop :=
  ∀ s s' : State, s.operands.key &&& ~~~parityMask = s'.operands.key &&& ~~~parityMask →
    ∃ t t', exec .ksched s = .next t ∧ exec .ksched s' = .next t' ∧ t.ek = t'.ek

/-- R134, R135: the shift schedule and its sums; rotating by the cumulative amount is rotating round by round; a left
rotation moves bit 27 to bit 0; after round 16 each half is back. -/
def Obligations.RotationIsRoundByRound : Prop :=
  shifts = [1, 1, 2, 2, 2, 2, 2, 2, 1, 2, 2, 2, 2, 2, 2, 1]
  ∧ (∀ i < 16, cum i = cumTable.getD i 0)
  ∧ (∀ (x : BitVec 28) (i : Nat), i + 1 < 16 →
    rol28 x (cum (i + 1)) = rol28 (rol28 x (cum i)) (shifts.getD (i + 1) 0))
  ∧ (∀ x : BitVec 28, rol28 x (cum 0) = rol28 x (shifts.getD 0 0))
  ∧ (∀ x : BitVec 28, (rol28 x 1).getLsbD 0 = x.getLsbD 27)
  ∧ (∀ x : BitVec 28, rol28 x (cum 15) = x)

/-- R138: the special keys' schedules; and a key whose C0 and D0 are each all zero or all one has 16 equal subkeys. -/
def Obligations.SpecialKeySchedules : Prop :=
  (∀ i : Fin 16,
    (schedule 0x0000000000000000)[i] = ⟨0x000000, 0x000000⟩
    ∧ (schedule 0x0101010101010101)[i] = ⟨0x000000, 0x000000⟩
    ∧ (schedule 0xFEFEFEFEFEFEFEFE)[i] = ⟨0xFFFFFF, 0xFFFFFF⟩
    ∧ (schedule 0xFFFFFFFFFFFFFFFF)[i] = ⟨0xFFFFFF, 0xFFFFFF⟩
    ∧ (schedule 0x1F1F1F1F0E0E0E0E)[i] = ⟨0x000000, 0xFFFFFF⟩)
  ∧ (∀ key : BitVec 64,
    (c0 key = 0 ∨ c0 key = 0xFFFFFFF) → (d0 key = 0 ∨ d0 key = 0xFFFFFFF) →
    ∀ i j : Fin 16, (schedule key)[i] = (schedule key)[j])

/-- The left subkey half depends on Ci only and the right one on Di only, and PC-2 drops eight positions (R136). -/
def Obligations.SubkeyHalvesAreIndependent : Prop :=
  (∀ c d d' : BitVec 28, (subKeyOf c d).l = (subKeyOf c d').l)
  ∧ (∀ c c' d : BitVec 28, (subKeyOf c d).r = (subKeyOf c' d).r)
  ∧ (∀ n, 1 ≤ n → n ≤ 56 → (n ∉ pc2 ↔ n ∈ [9, 18, 22, 25, 35, 38, 43, 54]))

/-! ## The Feistel Engine -/

/-- R150: with KV = 1, DESRUN leaves in DOUT the block that the rule's pseudocode computes, COUNT passes of 16 indexed
steps between IP and FP, and changes nothing else; a nonzero operand is ILLEGAL_CMD and KV = 0 is NO_KEY, with DOUT
unchanged. -/
def Obligations.DesrunRunsCountPasses : Prop :=
  (∀ s : State, s.operands.kv = true →
    let x : BitVec 64 := perm 64 ip (s.operands.dinL ++ s.operands.dinR)
    let h := (passByIndex s.operands.ek s.operands.smask)^[s.operands.count.toNat]
      ⟨x.extractLsb' 32 32, x.extractLsb' 0 32⟩
    let y : BitVec 64 := perm 64 fp (h.l ++ h.r)
    exec .desrun s = .next { s with doutL := y.extractLsb' 32 32, doutR := y.extractLsb' 0 32, pending := none })
  ∧ decode 0x03000000 = .ok .desrun
  ∧ (∀ (w : Word) (lat : Nat) (s : State), opcOf w = 0x03 → opndOf w ≠ 0 → s.pending = none →
    hostWrite (wordAt 0x04) w lat s
      = .next { s with err := true, errCode := if s.err then s.errCode else .illegalCmd })
  ∧ (∀ (lat : Nat) (s : State), s.kv = false → s.pending = none →
    hostWrite (wordAt 0x04) 0x03000000 lat s
      = .next { s with err := true, errCode := if s.err then s.errCode else .noKey })

/-- R160: a DESRUN word accepted by the decoder when KV = 0 raises NO_KEY at acceptance, whatever its latency: DOUT is
unchanged and BUSY is not set. -/
def Obligations.DesrunWithoutKeyRaisesNoKey : Prop :=
  ∀ (s : State) (w : Word) (lat : Nat), s.pending = none → s.kv = false → decode w = .ok .desrun →
    ∃ t, hostWrite (wordAt 0x04) w lat s = .next t
      ∧ t = { s with err := true, errCode := if s.err then s.errCode else .noKey }
      ∧ t.doutL = s.doutL ∧ t.doutR = s.doutR ∧ t.status.getLsbD 0 = false

/-- R161: with COUNT = 0 no pass runs and DOUT = DIN, whatever EK and SMASK hold. -/
def Obligations.DesrunOfZeroPassesCopiesTheBlock : Prop :=
  ∀ s : State, s.operands.kv = true → s.operands.count = 0 →
    exec .desrun s = .next { s with doutL := s.operands.dinL, doutR := s.operands.dinR, pending := none }

/-- R162: for the same EK and SMASK, DESRUN with COUNT = a + b (no 32-bit overflow) gives the DOUT of DESRUN with
COUNT = a followed by DESRUN with COUNT = b on its output. -/
def Obligations.DesrunComposes : Prop :=
  ∀ (s : State) (a b : Word), s.pending = none → s.kv = true → a.toNat + b.toNat < 2 ^ 32 →
    ∃ t t1 t2,
      exec .desrun { s with count := a + b } = .next t
      ∧ exec .desrun { s with count := a } = .next t1
      ∧ exec .desrun { t1 with dinL := t1.doutL, dinR := t1.doutR, count := b } = .next t2
      ∧ t.doutL = t2.doutL ∧ t.doutR = t2.doutR

/-- R164: for every key, every SMASK and every COUNT, KSCHED and DESRUN with the complemented key and the complemented
input give the complemented output. -/
def Obligations.DesrunKeepsComplementation : Prop :=
  ∀ s : State, s.pending = none →
    ∃ t u t' u',
      exec .ksched s = .next t ∧ exec .desrun t = .next u
      ∧ exec .ksched { s with keyHi := ~~~s.keyHi, keyLo := ~~~s.keyLo, dinL := ~~~s.dinL, dinR := ~~~s.dinR }
        = .next t'
      ∧ exec .desrun t' = .next u'
      ∧ u'.doutL = ~~~u.doutL ∧ u'.doutR = ~~~u.doutR

/-- An EK of 16 equal entries makes COUNT = 2 the identity for every SMASK, so COUNT = 25 gives the DOUT of COUNT = 1 (a
corner case of R150). -/
def Obligations.EqualSubkeysMakeTwoPassesTheIdentity : Prop :=
  ∀ (ek : ExpandedKey) (m : Half24) (v : BitVec 64), (∀ i j : Fin 16, ek[i] = ek[j]) →
    desRun ek m 2 v = v ∧ desRun ek m 25 v = desRun ek m 1 v

/-- FP undoes IP and IP undoes FP (R159, R151), and IP of the zero block is the zero block (R152). -/
def Obligations.FinalPermutationInvertsInitial : Prop :=
  (∀ v : BitVec 64, (perm 64 fp (perm 64 ip v : BitVec 64) : BitVec 64) = v)
  ∧ (∀ v : BitVec 64, (perm 64 ip (perm 64 fp v : BitVec 64) : BitVec 64) = v)
  ∧ initial 0 = ⟨0, 0⟩

/-- R154: the salting and mixing formula; a mask bit 1 exchanges the two halves' bits before the subkey is mixed in, a
mask bit 0 leaves them; with mask 0 the mixing is the plain XOR with the subkey. -/
def Obligations.MaskExchangesHalfBits : Prop :=
  (∀ (a b : Half24) (k : SubKey) (m : Half24),
    let f := (a ^^^ b) &&& m
    (mix a b k m).extractLsb' 24 24 = a ^^^ f ^^^ k.l ∧ (mix a b k m).extractLsb' 0 24 = b ^^^ f ^^^ k.r)
  ∧ (∀ (a b : Half24) (k : SubKey) (m : Half24), ∀ j < 24,
    (mix a b k m).getLsbD (24 + j) = ((if m.getLsbD j then b.getLsbD j else a.getLsbD j) ^^ k.l.getLsbD j)
    ∧ (mix a b k m).getLsbD j = ((if m.getLsbD j then a.getLsbD j else b.getLsbD j) ^^ k.r.getLsbD j))
  ∧ (∀ (a b : Half24) (k : SubKey), mix a b k 0 = (a ++ b) ^^^ (k.l ++ k.r))

/-- R153: the E-box's two halves in the rule's 32-bit shift-and-mask form. -/
def Obligations.EBoxByShiftsAndMasks : Prop :=
  ∀ r : Word,
    (eLeft r).setWidth 32
      = ((r &&& 0x00000001) <<< 23) ||| ((r &&& 0xF8000000) >>> 9) ||| ((r &&& 0x1F800000) >>> 11)
        ||| ((r &&& 0x01F80000) >>> 13) ||| ((r &&& 0x001F8000) >>> 15)
    ∧ (eRight r).setWidth 32
      = ((r &&& 0x0001F800) <<< 7) ||| ((r &&& 0x00001F80) <<< 5) ||| ((r &&& 0x000001F8) <<< 3)
        ||| ((r &&& 0x0000001F) <<< 1) ||| ((r &&& 0x80000000) >>> 31)

/-- R157: F as the rule's pseudocode writes it, and as the OR of the eight combined S-box and P-box tables. -/
def Obligations.RoundFunctionByCombinedTables : Prop :=
  ∀ (r : Word) (k : SubKey) (m : Half24),
    let e : BitVec 48 := perm 48 eTable r
    let a : Half24 := e.extractLsb' 24 24
    let b : Half24 := e.extractLsb' 0 24
    let f : Half24 := (a ^^^ b) &&& m
    let x : BitVec 48 := (a ^^^ f ^^^ k.l) ++ (b ^^^ f ^^^ k.r)
    roundF r k m
      = perm 32 pTable
          (sEntry s1 (group x 1) ++ sEntry s2 (group x 2) ++ sEntry s3 (group x 3) ++ sEntry s4 (group x 4)
            ++ sEntry s5 (group x 5) ++ sEntry s6 (group x 6) ++ sEntry s7 (group x 7) ++ sEntry s8 (group x 8) : Word)
    ∧ roundF r k m
      = combinedTable s1 1 (group x 1) ||| combinedTable s2 2 (group x 2) ||| combinedTable s3 3 (group x 3)
        ||| combinedTable s4 4 (group x 4) ||| combinedTable s5 5 (group x 5) ||| combinedTable s6 6 (group x 6)
        ||| combinedTable s7 7 (group x 7) ||| combinedTable s8 8 (group x 8)

/-- R165: DOUT after DESRUN is a function of DIN, COUNT, SMASK[23:0] and EK alone, and DESRUN writes nothing else. -/
def Obligations.DesrunDependsOnItsOperandsAlone : Prop :=
  ∀ s s' : State, s.operands.kv = true → s'.operands.kv = true →
    s.operands.dinL = s'.operands.dinL → s.operands.dinR = s'.operands.dinR →
    s.operands.count = s'.operands.count → s.operands.smask = s'.operands.smask →
    s.operands.ek = s'.operands.ek →
    ∃ t t', exec .desrun s = .next t ∧ exec .desrun s' = .next t'
      ∧ t.doutL = t'.doutL ∧ t.doutR = t'.doutR
      ∧ t = { s with doutL := t.doutL, doutR := t.doutR, pending := none }

/-! ## Control commands -/

/-- R180: CLRERR clears ERR and ERRCODE and nothing else; with a nonzero operand it is ILLEGAL_CMD and clears nothing;
written while BUSY = 1 it is dropped and records BUSY_WRITE. -/
def Obligations.ClrerrClearsTheErrorRecord : Prop :=
  (∀ s : State, exec .clrerr s = .next { s with err := false, errCode := .none, pending := none })
  ∧ decode 0x0E000000 = .ok .clrerr
  ∧ (∀ (w : Word) (lat : Nat) (s : State), opcOf w = 0x0E → opndOf w ≠ 0 → s.pending = none →
    hostWrite (wordAt 0x04) w lat s
      = .next { s with err := true, errCode := if s.err then s.errCode else .illegalCmd })
  ∧ (∀ (lat : Nat) (s : State) (p : Pending), s.pending = some p →
    hostWrite (wordAt 0x04) 0x0E000000 lat s
      = .next { s with err := true, errCode := if s.err then s.errCode else .busyWrite })

/-- R182: ZEROIZE clears every register but ERR and ERRCODE, every entry of EK, OK and KV; STATUS then reads
ERR << 1 | ERRCODE << 8; with a nonzero operand it is ILLEGAL_CMD and clears nothing. -/
def Obligations.ZeroizeClearsEverythingButErrors : Prop :=
  (∀ s : State, ∃ t, exec .zeroize s = .next t
    ∧ t = { s with
        keyHi := 0, keyLo := 0, count := 0, dinL := 0, dinR := 0, doutL := 0, doutR := 0, smask := 0,
        val := 0, char := 0, ok := false, kv := false, ek := t.ek, pending := none }
    ∧ (∀ i : Fin 16, t.ek[i] = ⟨0, 0⟩)
    ∧ t.status = ((BitVec.ofBool s.err).setWidth 32 <<< 1) ||| (s.errCode.bits.setWidth 32 <<< 8))
  ∧ decode 0x0F000000 = .ok .zeroize
  ∧ (∀ (w : Word) (lat : Nat) (s : State), opcOf w = 0x0F → opndOf w ≠ 0 → s.pending = none →
    hostWrite (wordAt 0x04) w lat s
      = .next { s with err := true, errCode := if s.err then s.errCode else .illegalCmd })

/-- R183: after ZEROIZE nothing can be observed of what the registers held: two states that differ in any of them, but
not in the error record, in what the host has yet to do and has read, and in the draws made, become one. -/
def Obligations.ZeroizeForgetsThePreviousHash : Prop :=
  ∀ s s' : State, s.err = s'.err → s.errCode = s'.errCode → s.inputs = s'.inputs →
    s.returned = s'.returned → s.draws = s'.draws →
    ∃ t, exec .zeroize s = .next t ∧ exec .zeroize s' = .next t

/-! ## Errors -/

/-- R202: raise Error records the code when ERR was 0 and sets ERR; a later error sets nothing new; nothing else
changes. -/
def Obligations.RaiseErrorKeepsTheFirst : Prop :=
  (∀ (s : State) (c : ErrCode), s.err = false → s.raiseError c = { s with err := true, errCode := c })
  ∧ (∀ (s : State) (c : ErrCode), s.err = true → s.raiseError c = s)

/-- R205: one write raises one code: BUSY_WRITE whatever the word while BUSY = 1, then ILLEGAL_CMD, then NO_KEY. -/
def Obligations.ErrorPriority : Prop :=
  (∀ (s : State) (p : Pending) (w : Word) (lat : Nat), s.pending = some p →
    hostWrite (wordAt 0x04) w lat s = .next (s.raiseError .busyWrite))
  ∧ (∀ (s : State) (w : Word) (lat : Nat), s.pending = none → legal (opcOf w) (opndOf w) = false →
    hostWrite (wordAt 0x04) w lat s = .next (s.raiseError .illegalCmd))
  ∧ (∀ (s : State) (w : Word) (lat : Nat), s.pending = none → s.kv = false → opcOf w = 0x03 →
    hostWrite (wordAt 0x04) w lat s
      = .next (s.raiseError (if opndOf w = 0 then .noKey else .illegalCmd)))

/-- R203: an accepted command cannot fail: in every state that meets the invariant, the pending command completes without
raising an error. -/
def Obligations.AcceptedCommandRaisesNoError : Prop :=
  ∀ (s : State) (p : Pending), s.Inv → s.pending = some p →
    ∃ t, exec p.instr s = .next t
      ∧ (p.instr ≠ .clrerr → t.err = s.err ∧ t.errCode = s.errCode)
      ∧ (p.instr = .clrerr → t.err = false ∧ t.errCode = .none)

/-- A recorded error blocks no command, which is accepted and performed whatever ERR and ERRCODE hold; and ERR and ERRCODE
change in a step only by raising an error, which keeps a recorded code, by CLRERR and by reset (R204). In the second
clause the latency n + 1 and that the captured operands are all of `s.live` are the model's choices (log 2, log 9). -/
def Obligations.RecordedErrorStaysAndBlocksNothing : Prop :=
  (∀ (i : Instr) (s : State) (e : Bool) (c : ErrCode), ∃ t e' c',
    exec i s = .next t
    ∧ exec i { s with err := e, errCode := c } = .next { t with err := e', errCode := c' })
  ∧ (∀ (i : Instr) (s : State) (w : Word) (n : Nat), s.pending = none → decode w = .ok i →
    (i = .desrun → s.kv = true) →
    hostWrite (wordAt 0x04) w (n + 1) s = .next { s with pending := some ⟨i, s.live, n⟩ })
  ∧ (∀ s t : State, step s = .next t → s.runs ≠ some .clrerr → s.acts ≠ some .reset →
    (t.err = s.err ∧ t.errCode = s.errCode)
    ∨ ∃ c, c ≠ .none ∧ t.err = true ∧ t.errCode = if s.err then s.errCode else c)

/-! ## The window -/

/-- R51: what an idle block's slots read as (R20 to R29); a read changes no state of DESC. -/
def Obligations.IdleReadReturnsTheRegister : Prop :=
  ∀ s : State, s.pending = none →
    ∀ e ∈ ([(0x00, 0x44455331), (0x04, 0), (0x08, s.status), (0x0C, 0), (0x10, 0), (0x14, s.count),
        (0x18, s.dinL), (0x1C, s.dinR), (0x20, s.doutL), (0x24, s.doutR), (0x28, s.smask.setWidth 32),
        (0x2C, s.codec), (0x30, 0), (0x34, 0), (0x38, 0), (0x3C, 0)] : List (BitVec 6 × Word)),
      hostRead (wordAt e.1) s = .next { s with returned := e.2 :: s.returned }

/-- R52: what a write to an idle block's slots does, CMD's apart: the writable registers are replaced, read-only and
reserved slots ignore it and record no error; a write to CMD performs the command. -/
def Obligations.IdleWriteReplacesTheRegister : Prop :=
  ∀ (s : State) (v : Word) (lat : Nat), s.pending = none →
    hostWrite (wordAt 0x04) v lat s = command v lat s
    ∧ ∀ e ∈ ([(0x00, s), (0x08, s), (0x0C, { s with keyHi := v }), (0x10, { s with keyLo := v }),
        (0x14, { s with count := v }), (0x18, { s with dinL := v }), (0x1C, { s with dinR := v }),
        (0x20, s), (0x24, s), (0x28, s), (0x2C, s), (0x30, s), (0x34, s), (0x38, s), (0x3C, s)]
        : List (BitVec 6 × State)),
      hostWrite (wordAt e.1) v lat s = .next e.2

/-- While BUSY = 1, ID and STATUS read as they are, any other offset reads as a draw, every write is dropped and raises
BUSY_WRITE, and none of these affects the pending command (R226). That a draw is `Config.draw` of a count that the read
advances is the model's choice (log 3): R226 says only that the value is unspecified and that no state changes. -/
def Obligations.AccessWhileBusy : Prop :=
  ∀ (s : State) (p : Pending), s.pending = some p →
    hostRead (wordAt 0x00) s = .next { s with returned := 0x44455331 :: s.returned }
    ∧ hostRead (wordAt 0x08) s = .next { s with returned := s.status :: s.returned }
    ∧ s.status.getLsbD 0 = true
    ∧ (∀ off : BitVec 6, off.toNat % 4 = 0 → off ≠ 0x00 → off ≠ 0x08 →
      hostRead (wordAt off) s
        = .next { s with returned := Config.draw s.draws :: s.returned, draws := s.draws + 1 })
    ∧ (∀ (off : BitVec 6) (v : Word) (lat : Nat), off.toNat % 4 = 0 →
      hostWrite (wordAt off) v lat s
        = .next { s with err := true, errCode := if s.err then s.errCode else .busyWrite })

/-- An access that is not an aligned 32-bit word is refused, and no other access is (R55). That it is refused while
BUSY = 1 as well, where R226 speaks of a write to any offset, is the model's deduction (log 6). -/
def Obligations.OnlyAlignedWordsAreAccepted : Prop :=
  ∀ (s : State) (a : Access) (v : Word) (lat : Nat),
    ((a.size ≠ .word ∨ a.off.toNat % 4 ≠ 0) →
      hostRead a s = .refused .subwordAccess ∧ hostWrite a v lat s = .refused .subwordAccess)
    ∧ (a.size = .word ∧ a.off.toNat % 4 = 0 →
      (∃ t, hostRead a s = .next t) ∧ ∃ t, hostWrite a v lat s = .next t)

/-- The fields of STATUS stand where R23 puts them, and its reserved bits read 0. -/
def Obligations.StatusFieldsStandInTheirBits : Prop :=
  ∀ s : State,
    s.status.getLsbD 0 = s.pending.isSome
    ∧ s.status.getLsbD 1 = s.err
    ∧ s.status.getLsbD 2 = s.ok
    ∧ s.status.getLsbD 3 = s.kv
    ∧ s.status.extractLsb' 4 4 = 0
    ∧ (s.status.extractLsb' 8 4).toNat
      = (match s.errCode with | .none => 0 | .illegalCmd => 1 | .noKey => 2 | .busyWrite => 3)
    ∧ s.status.extractLsb' 12 20 = 0

/-- The fields of CODEC stand where R29 puts them, and its other bits are 0. -/
def Obligations.CodecFieldsStandInTheirBits : Prop :=
  ∀ s : State,
    s.codec.extractLsb' 0 6 = s.val
    ∧ s.codec.extractLsb' 6 2 = 0
    ∧ s.codec.extractLsb' 8 8 = s.char
    ∧ s.codec.extractLsb' 16 16 = 0

/-- No read that returns a register's value returns anything of the key or of EK: any read of an idle block, and a read of
ID or STATUS while BUSY = 1, returns the same value whatever KEY_HI, KEY_LO, EK and the operands of a pending command
hold (R21, R30, R140). Any other read while BUSY = 1 is unspecified and may expose values of the engine (R226, R35), so
nothing is said of it (log 3). -/
def Obligations.KeyIsNeverReadBack : Prop :=
  ∀ (s : State) (a : Access) (hi lo : Word) (ek : ExpandedKey) (o : Operands) (t : State),
    s.pending = none ∨ slotAt a = some .id ∨ slotAt a = some .status →
    hostRead a s = .next t →
    ∃ t', hostRead a
        { s with keyHi := hi, keyLo := lo, ek := ek, pending := s.pending.map fun p => { p with ops := o } } = .next t'
      ∧ t'.returned = t.returned

/-- The window is 64 bytes at DESC_BASE, a multiple of 64; an access at DESC_BASE + off is one at offset off, and an access
at an address outside it is not DESC's (R7, R50, R57). For an access that starts outside the window and reaches into it,
and for one that starts inside and reaches past its end, that is the model's choice (log 21). -/
def Obligations.WindowStandsAtDescBase : Prop :=
  Config.descBase % 64 = 0
  ∧ (∀ (size : AccessSize) (off : BitVec 6), onBus size (Config.descBase + off.toNat) = some ⟨size, off⟩)
  ∧ (∀ (size : AccessSize) (addr : Nat), addr < Config.descBase ∨ Config.descBase + 64 ≤ addr →
    onBus size addr = none)

/-- LOADKEY packs the eight key bytes big-endian: kb0 in KEY_HI[31:24], kb7 in KEY_LO[7:0] (R82, R53, R24). -/
def Obligations.LoadkeyPacksBigEndian : Prop :=
  ∀ (s : State) (lat : Nat) (kb0 kb1 kb2 kb3 kb4 kb5 kb6 kb7 : Byte), s.pending = none →
    ∃ (ops : List HostOp) (t : State),
      (HostLine.loadkey kb0 kb1 kb2 kb3 kb4 kb5 kb6 kb7).expand lat = some ops
      ∧ Host.Core.run core 2 { s with inputs := ops } = .next t
      ∧ t = { s with keyHi := t.keyHi, keyLo := t.keyLo, inputs := [] }
      ∧ t.keyHi.extractLsb' 24 8 = kb0 ∧ t.keyHi.extractLsb' 16 8 = kb1
      ∧ t.keyHi.extractLsb' 8 8 = kb2 ∧ t.keyHi.extractLsb' 0 8 = kb3
      ∧ t.keyLo.extractLsb' 24 8 = kb4 ∧ t.keyLo.extractLsb' 16 8 = kb5
      ∧ t.keyLo.extractLsb' 8 8 = kb6 ∧ t.keyLo.extractLsb' 0 8 = kb7

/-- WAIT polls STATUS until BUSY = 0 and changes nothing: an idle block passes on, a busy one stays at it while the
latency runs (R82; log 5). -/
def Obligations.WaitPollsUntilIdle : Prop :=
  (∀ (s : State) (rest : List HostOp), s.pending = none → s.inputs = .wait :: rest →
    step s = .next { s with inputs := rest })
  ∧ (∀ (s : State) (p : Pending) (n : Nat) (rest : List HostOp),
    s.pending = some p → p.wait = n + 1 → s.inputs = .wait :: rest →
    step s = .next { s with pending := some { p with wait := n } })

/-! ## Reset and whole-machine rules -/

/-- R220: the reset state. -/
def Obligations.ResetValues : Prop :=
  readSlot State.reset .id = 0x44455331
  ∧ State.reset.status = 0
  ∧ State.reset.err = false ∧ State.reset.errCode = .none ∧ State.reset.ok = false ∧ State.reset.kv = false
  ∧ State.reset.keyHi = 0 ∧ State.reset.keyLo = 0
  ∧ State.reset.count = 0
  ∧ State.reset.dinL = 0 ∧ State.reset.dinR = 0
  ∧ State.reset.doutL = 0 ∧ State.reset.doutR = 0
  ∧ State.reset.smask = 0
  ∧ State.reset.val = 0 ∧ State.reset.char = 0
  ∧ (∀ i : Fin 16, State.reset.ek[i] = ⟨0, 0⟩)
  ∧ State.reset.pending = none

/-- A reset abandons a pending command, writes none of its results and leaves the reset state; and while a command waits
nothing else stops it (R221). That what the host has yet to do and what it has read are kept is the model's choice (log
11), and so is that the engine moves before a reset that comes next when the wait is 0 (log 2), a case left out here. -/
def Obligations.ResetAbandonsThePendingCommand : Prop :=
  (∀ (s : State) (rest : List HostOp), s.inputs = .reset :: rest → (∀ p, s.pending = some p → p.wait ≠ 0) →
    step s = .next { State.reset with inputs := rest, returned := s.returned, draws := s.draws })
  ∧ (∀ (s t : State) (p : Pending) (n : Nat), s.pending = some p → p.wait = n + 1 → s.acts ≠ some .reset →
    step s = .next t → t.pending = some { p with wait := n })

/-- The invariant holds after reset. -/
def Obligations.InvariantHoldsAtReset : Prop :=
  State.reset.Inv

/-- Every step keeps the invariant: the error record is consistent (R201, R202), a pending command's operands equal the
registers it reads (R225, R226), a DESRUN is pending only with KV = 1 (R71), KV says whether EK holds a schedule built by
KSCHED (R23, R30), and CHAR is 0 or a character of the alphabet (R29). -/
def Obligations.EveryStepKeepsTheInvariant : Prop :=
  ∀ s t : State, s.Inv → step s = .next t → t.Inv

/-- Each piece of state changes in a step only by the writers its rule names (R23 to R30, R34): the host's write of its
slot on an idle block, the commands named, ZEROIZE and reset. ERR and ERRCODE change only by CLRERR and by raising the
error that R201 names the cause of, and then only where ERR was 0 (R202); the pending command, and so BUSY, only by its
completion, by its wait's count and by the acceptance of a legal command; ZEROIZE is no exception to these two. The clause
on errors takes the invariant as a premise, since a DESRUN pending with KV = 0 is in no reachable state (log 10). The
wait, and that the captured operands are all of `s.live`, are the model's choices (log 2, log 9). -/
def Obligations.OnlyTheNamedWritersChangeState : Prop :=
  ∀ s t : State, step s = .next t → s.acts ≠ some .reset →
    (s.runs ≠ some .zeroize →
      (t.keyHi ≠ s.keyHi → s.writes .keyHi)
      ∧ (t.keyLo ≠ s.keyLo → s.writes .keyLo)
      ∧ (t.count ≠ s.count → s.writes .count)
      ∧ (t.dinL ≠ s.dinL → s.writes .dinL)
      ∧ (t.dinR ≠ s.dinR → s.writes .dinR)
      ∧ (t.doutL ≠ s.doutL ∨ t.doutR ≠ s.doutR → s.runs = some .desrun)
      ∧ (t.smask ≠ s.smask → ∃ salt, s.runs = some (.saltx salt))
      ∧ (t.char ≠ s.char → ∃ v, s.runs = some (.enc v))
      ∧ (t.val ≠ s.val ∨ t.ok ≠ s.ok → ∃ c, s.runs = some (.dec c))
      ∧ (t.ek ≠ s.ek ∨ t.kv ≠ s.kv → s.runs = some .ksched))
    ∧ (s.Inv → t.err ≠ s.err ∨ t.errCode ≠ s.errCode →
      s.runs = some .clrerr ∨ (s.err = false ∧ t.err = true ∧ s.raises = some t.errCode))
    ∧ (t.pending ≠ s.pending →
      (∃ p, s.pending = some p ∧ p.wait = 0 ∧ s.runs = some p.instr ∧ t.pending = none)
      ∨ (∃ p n, s.pending = some p ∧ p.wait = n + 1 ∧ t.pending = some { p with wait := n })
      ∨ (∃ a w n i, s.pending = none ∧ s.inputs.head? = some (.write a w (n + 1)) ∧ slotAt a = some .cmd
        ∧ decode w = .ok i ∧ (i = .desrun → s.kv = true) ∧ t.pending = some ⟨i, s.live, n⟩))

/-- R227: a host that polls BUSY after every command before any other access meets no hazard: every step has a next state,
the discipline holds on, no read is a draw, and no BUSY_WRITE is recorded. -/
def Obligations.DisciplinedHostMeetsNoHazard : Prop :=
  ∀ s : State, s.Disciplined →
    ∃ t, step s = .next t ∧ t.Disciplined ∧ t.draws = s.draws
      ∧ (t.errCode = .busyWrite → s.errCode = .busyWrite)
end

