-- ==== Sys2Proof/Laws/State.lean ====
section
/-! SUPPORT. One lemma per field per state update, so that no proof unfolds an update; and BUSY and the operands of an
updated state. -/

namespace Sys2Proof.Machine.State

variable (s : State)

@[simp] theorem setKeyHi_keyHi (v : Word) : (s.setKeyHi v).keyHi = v := rfl
@[simp] theorem setKeyHi_keyLo (v : Word) : (s.setKeyHi v).keyLo = s.keyLo := rfl
@[simp] theorem setKeyHi_count (v : Word) : (s.setKeyHi v).count = s.count := rfl
@[simp] theorem setKeyHi_dinL (v : Word) : (s.setKeyHi v).dinL = s.dinL := rfl
@[simp] theorem setKeyHi_dinR (v : Word) : (s.setKeyHi v).dinR = s.dinR := rfl
@[simp] theorem setKeyHi_doutL (v : Word) : (s.setKeyHi v).doutL = s.doutL := rfl
@[simp] theorem setKeyHi_doutR (v : Word) : (s.setKeyHi v).doutR = s.doutR := rfl
@[simp] theorem setKeyHi_smask (v : Word) : (s.setKeyHi v).smask = s.smask := rfl
@[simp] theorem setKeyHi_val (v : Word) : (s.setKeyHi v).val = s.val := rfl
@[simp] theorem setKeyHi_char (v : Word) : (s.setKeyHi v).char = s.char := rfl
@[simp] theorem setKeyHi_err (v : Word) : (s.setKeyHi v).err = s.err := rfl
@[simp] theorem setKeyHi_errCode (v : Word) : (s.setKeyHi v).errCode = s.errCode := rfl
@[simp] theorem setKeyHi_ok (v : Word) : (s.setKeyHi v).ok = s.ok := rfl
@[simp] theorem setKeyHi_kv (v : Word) : (s.setKeyHi v).kv = s.kv := rfl
@[simp] theorem setKeyHi_ek (v : Word) : (s.setKeyHi v).ek = s.ek := rfl
@[simp] theorem setKeyHi_pending (v : Word) : (s.setKeyHi v).pending = s.pending := rfl
@[simp] theorem setKeyHi_inputs (v : Word) : (s.setKeyHi v).inputs = s.inputs := rfl
@[simp] theorem setKeyHi_returned (v : Word) : (s.setKeyHi v).returned = s.returned := rfl
@[simp] theorem setKeyHi_draws (v : Word) : (s.setKeyHi v).draws = s.draws := rfl
@[simp] theorem setKeyHi_busy (v : Word) : (s.setKeyHi v).busy = s.busy := rfl

@[simp] theorem setKeyLo_keyHi (v : Word) : (s.setKeyLo v).keyHi = s.keyHi := rfl
@[simp] theorem setKeyLo_keyLo (v : Word) : (s.setKeyLo v).keyLo = v := rfl
@[simp] theorem setKeyLo_count (v : Word) : (s.setKeyLo v).count = s.count := rfl
@[simp] theorem setKeyLo_dinL (v : Word) : (s.setKeyLo v).dinL = s.dinL := rfl
@[simp] theorem setKeyLo_dinR (v : Word) : (s.setKeyLo v).dinR = s.dinR := rfl
@[simp] theorem setKeyLo_doutL (v : Word) : (s.setKeyLo v).doutL = s.doutL := rfl
@[simp] theorem setKeyLo_doutR (v : Word) : (s.setKeyLo v).doutR = s.doutR := rfl
@[simp] theorem setKeyLo_smask (v : Word) : (s.setKeyLo v).smask = s.smask := rfl
@[simp] theorem setKeyLo_val (v : Word) : (s.setKeyLo v).val = s.val := rfl
@[simp] theorem setKeyLo_char (v : Word) : (s.setKeyLo v).char = s.char := rfl
@[simp] theorem setKeyLo_err (v : Word) : (s.setKeyLo v).err = s.err := rfl
@[simp] theorem setKeyLo_errCode (v : Word) : (s.setKeyLo v).errCode = s.errCode := rfl
@[simp] theorem setKeyLo_ok (v : Word) : (s.setKeyLo v).ok = s.ok := rfl
@[simp] theorem setKeyLo_kv (v : Word) : (s.setKeyLo v).kv = s.kv := rfl
@[simp] theorem setKeyLo_ek (v : Word) : (s.setKeyLo v).ek = s.ek := rfl
@[simp] theorem setKeyLo_pending (v : Word) : (s.setKeyLo v).pending = s.pending := rfl
@[simp] theorem setKeyLo_inputs (v : Word) : (s.setKeyLo v).inputs = s.inputs := rfl
@[simp] theorem setKeyLo_returned (v : Word) : (s.setKeyLo v).returned = s.returned := rfl
@[simp] theorem setKeyLo_draws (v : Word) : (s.setKeyLo v).draws = s.draws := rfl
@[simp] theorem setKeyLo_busy (v : Word) : (s.setKeyLo v).busy = s.busy := rfl

@[simp] theorem setCount_keyHi (v : Word) : (s.setCount v).keyHi = s.keyHi := rfl
@[simp] theorem setCount_keyLo (v : Word) : (s.setCount v).keyLo = s.keyLo := rfl
@[simp] theorem setCount_count (v : Word) : (s.setCount v).count = v := rfl
@[simp] theorem setCount_dinL (v : Word) : (s.setCount v).dinL = s.dinL := rfl
@[simp] theorem setCount_dinR (v : Word) : (s.setCount v).dinR = s.dinR := rfl
@[simp] theorem setCount_doutL (v : Word) : (s.setCount v).doutL = s.doutL := rfl
@[simp] theorem setCount_doutR (v : Word) : (s.setCount v).doutR = s.doutR := rfl
@[simp] theorem setCount_smask (v : Word) : (s.setCount v).smask = s.smask := rfl
@[simp] theorem setCount_val (v : Word) : (s.setCount v).val = s.val := rfl
@[simp] theorem setCount_char (v : Word) : (s.setCount v).char = s.char := rfl
@[simp] theorem setCount_err (v : Word) : (s.setCount v).err = s.err := rfl
@[simp] theorem setCount_errCode (v : Word) : (s.setCount v).errCode = s.errCode := rfl
@[simp] theorem setCount_ok (v : Word) : (s.setCount v).ok = s.ok := rfl
@[simp] theorem setCount_kv (v : Word) : (s.setCount v).kv = s.kv := rfl
@[simp] theorem setCount_ek (v : Word) : (s.setCount v).ek = s.ek := rfl
@[simp] theorem setCount_pending (v : Word) : (s.setCount v).pending = s.pending := rfl
@[simp] theorem setCount_inputs (v : Word) : (s.setCount v).inputs = s.inputs := rfl
@[simp] theorem setCount_returned (v : Word) : (s.setCount v).returned = s.returned := rfl
@[simp] theorem setCount_draws (v : Word) : (s.setCount v).draws = s.draws := rfl
@[simp] theorem setCount_busy (v : Word) : (s.setCount v).busy = s.busy := rfl

@[simp] theorem setDinL_keyHi (v : Word) : (s.setDinL v).keyHi = s.keyHi := rfl
@[simp] theorem setDinL_keyLo (v : Word) : (s.setDinL v).keyLo = s.keyLo := rfl
@[simp] theorem setDinL_count (v : Word) : (s.setDinL v).count = s.count := rfl
@[simp] theorem setDinL_dinL (v : Word) : (s.setDinL v).dinL = v := rfl
@[simp] theorem setDinL_dinR (v : Word) : (s.setDinL v).dinR = s.dinR := rfl
@[simp] theorem setDinL_doutL (v : Word) : (s.setDinL v).doutL = s.doutL := rfl
@[simp] theorem setDinL_doutR (v : Word) : (s.setDinL v).doutR = s.doutR := rfl
@[simp] theorem setDinL_smask (v : Word) : (s.setDinL v).smask = s.smask := rfl
@[simp] theorem setDinL_val (v : Word) : (s.setDinL v).val = s.val := rfl
@[simp] theorem setDinL_char (v : Word) : (s.setDinL v).char = s.char := rfl
@[simp] theorem setDinL_err (v : Word) : (s.setDinL v).err = s.err := rfl
@[simp] theorem setDinL_errCode (v : Word) : (s.setDinL v).errCode = s.errCode := rfl
@[simp] theorem setDinL_ok (v : Word) : (s.setDinL v).ok = s.ok := rfl
@[simp] theorem setDinL_kv (v : Word) : (s.setDinL v).kv = s.kv := rfl
@[simp] theorem setDinL_ek (v : Word) : (s.setDinL v).ek = s.ek := rfl
@[simp] theorem setDinL_pending (v : Word) : (s.setDinL v).pending = s.pending := rfl
@[simp] theorem setDinL_inputs (v : Word) : (s.setDinL v).inputs = s.inputs := rfl
@[simp] theorem setDinL_returned (v : Word) : (s.setDinL v).returned = s.returned := rfl
@[simp] theorem setDinL_draws (v : Word) : (s.setDinL v).draws = s.draws := rfl
@[simp] theorem setDinL_busy (v : Word) : (s.setDinL v).busy = s.busy := rfl

@[simp] theorem setDinR_keyHi (v : Word) : (s.setDinR v).keyHi = s.keyHi := rfl
@[simp] theorem setDinR_keyLo (v : Word) : (s.setDinR v).keyLo = s.keyLo := rfl
@[simp] theorem setDinR_count (v : Word) : (s.setDinR v).count = s.count := rfl
@[simp] theorem setDinR_dinL (v : Word) : (s.setDinR v).dinL = s.dinL := rfl
@[simp] theorem setDinR_dinR (v : Word) : (s.setDinR v).dinR = v := rfl
@[simp] theorem setDinR_doutL (v : Word) : (s.setDinR v).doutL = s.doutL := rfl
@[simp] theorem setDinR_doutR (v : Word) : (s.setDinR v).doutR = s.doutR := rfl
@[simp] theorem setDinR_smask (v : Word) : (s.setDinR v).smask = s.smask := rfl
@[simp] theorem setDinR_val (v : Word) : (s.setDinR v).val = s.val := rfl
@[simp] theorem setDinR_char (v : Word) : (s.setDinR v).char = s.char := rfl
@[simp] theorem setDinR_err (v : Word) : (s.setDinR v).err = s.err := rfl
@[simp] theorem setDinR_errCode (v : Word) : (s.setDinR v).errCode = s.errCode := rfl
@[simp] theorem setDinR_ok (v : Word) : (s.setDinR v).ok = s.ok := rfl
@[simp] theorem setDinR_kv (v : Word) : (s.setDinR v).kv = s.kv := rfl
@[simp] theorem setDinR_ek (v : Word) : (s.setDinR v).ek = s.ek := rfl
@[simp] theorem setDinR_pending (v : Word) : (s.setDinR v).pending = s.pending := rfl
@[simp] theorem setDinR_inputs (v : Word) : (s.setDinR v).inputs = s.inputs := rfl
@[simp] theorem setDinR_returned (v : Word) : (s.setDinR v).returned = s.returned := rfl
@[simp] theorem setDinR_draws (v : Word) : (s.setDinR v).draws = s.draws := rfl
@[simp] theorem setDinR_busy (v : Word) : (s.setDinR v).busy = s.busy := rfl

@[simp] theorem setDout_keyHi (a b : Word) : (s.setDout a b).keyHi = s.keyHi := rfl
@[simp] theorem setDout_keyLo (a b : Word) : (s.setDout a b).keyLo = s.keyLo := rfl
@[simp] theorem setDout_count (a b : Word) : (s.setDout a b).count = s.count := rfl
@[simp] theorem setDout_dinL (a b : Word) : (s.setDout a b).dinL = s.dinL := rfl
@[simp] theorem setDout_dinR (a b : Word) : (s.setDout a b).dinR = s.dinR := rfl
@[simp] theorem setDout_doutL (a b : Word) : (s.setDout a b).doutL = a := rfl
@[simp] theorem setDout_doutR (a b : Word) : (s.setDout a b).doutR = b := rfl
@[simp] theorem setDout_smask (a b : Word) : (s.setDout a b).smask = s.smask := rfl
@[simp] theorem setDout_val (a b : Word) : (s.setDout a b).val = s.val := rfl
@[simp] theorem setDout_char (a b : Word) : (s.setDout a b).char = s.char := rfl
@[simp] theorem setDout_err (a b : Word) : (s.setDout a b).err = s.err := rfl
@[simp] theorem setDout_errCode (a b : Word) : (s.setDout a b).errCode = s.errCode := rfl
@[simp] theorem setDout_ok (a b : Word) : (s.setDout a b).ok = s.ok := rfl
@[simp] theorem setDout_kv (a b : Word) : (s.setDout a b).kv = s.kv := rfl
@[simp] theorem setDout_ek (a b : Word) : (s.setDout a b).ek = s.ek := rfl
@[simp] theorem setDout_pending (a b : Word) : (s.setDout a b).pending = s.pending := rfl
@[simp] theorem setDout_inputs (a b : Word) : (s.setDout a b).inputs = s.inputs := rfl
@[simp] theorem setDout_returned (a b : Word) : (s.setDout a b).returned = s.returned := rfl
@[simp] theorem setDout_draws (a b : Word) : (s.setDout a b).draws = s.draws := rfl
@[simp] theorem setDout_busy (a b : Word) : (s.setDout a b).busy = s.busy := rfl

@[simp] theorem setSmask_keyHi (m : Half24) : (s.setSmask m).keyHi = s.keyHi := rfl
@[simp] theorem setSmask_keyLo (m : Half24) : (s.setSmask m).keyLo = s.keyLo := rfl
@[simp] theorem setSmask_count (m : Half24) : (s.setSmask m).count = s.count := rfl
@[simp] theorem setSmask_dinL (m : Half24) : (s.setSmask m).dinL = s.dinL := rfl
@[simp] theorem setSmask_dinR (m : Half24) : (s.setSmask m).dinR = s.dinR := rfl
@[simp] theorem setSmask_doutL (m : Half24) : (s.setSmask m).doutL = s.doutL := rfl
@[simp] theorem setSmask_doutR (m : Half24) : (s.setSmask m).doutR = s.doutR := rfl
@[simp] theorem setSmask_smask (m : Half24) : (s.setSmask m).smask = m := rfl
@[simp] theorem setSmask_val (m : Half24) : (s.setSmask m).val = s.val := rfl
@[simp] theorem setSmask_char (m : Half24) : (s.setSmask m).char = s.char := rfl
@[simp] theorem setSmask_err (m : Half24) : (s.setSmask m).err = s.err := rfl
@[simp] theorem setSmask_errCode (m : Half24) : (s.setSmask m).errCode = s.errCode := rfl
@[simp] theorem setSmask_ok (m : Half24) : (s.setSmask m).ok = s.ok := rfl
@[simp] theorem setSmask_kv (m : Half24) : (s.setSmask m).kv = s.kv := rfl
@[simp] theorem setSmask_ek (m : Half24) : (s.setSmask m).ek = s.ek := rfl
@[simp] theorem setSmask_pending (m : Half24) : (s.setSmask m).pending = s.pending := rfl
@[simp] theorem setSmask_inputs (m : Half24) : (s.setSmask m).inputs = s.inputs := rfl
@[simp] theorem setSmask_returned (m : Half24) : (s.setSmask m).returned = s.returned := rfl
@[simp] theorem setSmask_draws (m : Half24) : (s.setSmask m).draws = s.draws := rfl
@[simp] theorem setSmask_busy (m : Half24) : (s.setSmask m).busy = s.busy := rfl

@[simp] theorem setChar_keyHi (c : Byte) : (s.setChar c).keyHi = s.keyHi := rfl
@[simp] theorem setChar_keyLo (c : Byte) : (s.setChar c).keyLo = s.keyLo := rfl
@[simp] theorem setChar_count (c : Byte) : (s.setChar c).count = s.count := rfl
@[simp] theorem setChar_dinL (c : Byte) : (s.setChar c).dinL = s.dinL := rfl
@[simp] theorem setChar_dinR (c : Byte) : (s.setChar c).dinR = s.dinR := rfl
@[simp] theorem setChar_doutL (c : Byte) : (s.setChar c).doutL = s.doutL := rfl
@[simp] theorem setChar_doutR (c : Byte) : (s.setChar c).doutR = s.doutR := rfl
@[simp] theorem setChar_smask (c : Byte) : (s.setChar c).smask = s.smask := rfl
@[simp] theorem setChar_val (c : Byte) : (s.setChar c).val = s.val := rfl
@[simp] theorem setChar_char (c : Byte) : (s.setChar c).char = c := rfl
@[simp] theorem setChar_err (c : Byte) : (s.setChar c).err = s.err := rfl
@[simp] theorem setChar_errCode (c : Byte) : (s.setChar c).errCode = s.errCode := rfl
@[simp] theorem setChar_ok (c : Byte) : (s.setChar c).ok = s.ok := rfl
@[simp] theorem setChar_kv (c : Byte) : (s.setChar c).kv = s.kv := rfl
@[simp] theorem setChar_ek (c : Byte) : (s.setChar c).ek = s.ek := rfl
@[simp] theorem setChar_pending (c : Byte) : (s.setChar c).pending = s.pending := rfl
@[simp] theorem setChar_inputs (c : Byte) : (s.setChar c).inputs = s.inputs := rfl
@[simp] theorem setChar_returned (c : Byte) : (s.setChar c).returned = s.returned := rfl
@[simp] theorem setChar_draws (c : Byte) : (s.setChar c).draws = s.draws := rfl
@[simp] theorem setChar_busy (c : Byte) : (s.setChar c).busy = s.busy := rfl

@[simp] theorem setVal_keyHi (v : BitVec 6) (b : Bool) : (s.setVal v b).keyHi = s.keyHi := rfl
@[simp] theorem setVal_keyLo (v : BitVec 6) (b : Bool) : (s.setVal v b).keyLo = s.keyLo := rfl
@[simp] theorem setVal_count (v : BitVec 6) (b : Bool) : (s.setVal v b).count = s.count := rfl
@[simp] theorem setVal_dinL (v : BitVec 6) (b : Bool) : (s.setVal v b).dinL = s.dinL := rfl
@[simp] theorem setVal_dinR (v : BitVec 6) (b : Bool) : (s.setVal v b).dinR = s.dinR := rfl
@[simp] theorem setVal_doutL (v : BitVec 6) (b : Bool) : (s.setVal v b).doutL = s.doutL := rfl
@[simp] theorem setVal_doutR (v : BitVec 6) (b : Bool) : (s.setVal v b).doutR = s.doutR := rfl
@[simp] theorem setVal_smask (v : BitVec 6) (b : Bool) : (s.setVal v b).smask = s.smask := rfl
@[simp] theorem setVal_val (v : BitVec 6) (b : Bool) : (s.setVal v b).val = v := rfl
@[simp] theorem setVal_char (v : BitVec 6) (b : Bool) : (s.setVal v b).char = s.char := rfl
@[simp] theorem setVal_err (v : BitVec 6) (b : Bool) : (s.setVal v b).err = s.err := rfl
@[simp] theorem setVal_errCode (v : BitVec 6) (b : Bool) : (s.setVal v b).errCode = s.errCode := rfl
@[simp] theorem setVal_ok (v : BitVec 6) (b : Bool) : (s.setVal v b).ok = b := rfl
@[simp] theorem setVal_kv (v : BitVec 6) (b : Bool) : (s.setVal v b).kv = s.kv := rfl
@[simp] theorem setVal_ek (v : BitVec 6) (b : Bool) : (s.setVal v b).ek = s.ek := rfl
@[simp] theorem setVal_pending (v : BitVec 6) (b : Bool) : (s.setVal v b).pending = s.pending := rfl
@[simp] theorem setVal_inputs (v : BitVec 6) (b : Bool) : (s.setVal v b).inputs = s.inputs := rfl
@[simp] theorem setVal_returned (v : BitVec 6) (b : Bool) : (s.setVal v b).returned = s.returned := rfl
@[simp] theorem setVal_draws (v : BitVec 6) (b : Bool) : (s.setVal v b).draws = s.draws := rfl
@[simp] theorem setVal_busy (v : BitVec 6) (b : Bool) : (s.setVal v b).busy = s.busy := rfl

@[simp] theorem setEk_keyHi (e : ExpandedKey) : (s.setEk e).keyHi = s.keyHi := rfl
@[simp] theorem setEk_keyLo (e : ExpandedKey) : (s.setEk e).keyLo = s.keyLo := rfl
@[simp] theorem setEk_count (e : ExpandedKey) : (s.setEk e).count = s.count := rfl
@[simp] theorem setEk_dinL (e : ExpandedKey) : (s.setEk e).dinL = s.dinL := rfl
@[simp] theorem setEk_dinR (e : ExpandedKey) : (s.setEk e).dinR = s.dinR := rfl
@[simp] theorem setEk_doutL (e : ExpandedKey) : (s.setEk e).doutL = s.doutL := rfl
@[simp] theorem setEk_doutR (e : ExpandedKey) : (s.setEk e).doutR = s.doutR := rfl
@[simp] theorem setEk_smask (e : ExpandedKey) : (s.setEk e).smask = s.smask := rfl
@[simp] theorem setEk_val (e : ExpandedKey) : (s.setEk e).val = s.val := rfl
@[simp] theorem setEk_char (e : ExpandedKey) : (s.setEk e).char = s.char := rfl
@[simp] theorem setEk_err (e : ExpandedKey) : (s.setEk e).err = s.err := rfl
@[simp] theorem setEk_errCode (e : ExpandedKey) : (s.setEk e).errCode = s.errCode := rfl
@[simp] theorem setEk_ok (e : ExpandedKey) : (s.setEk e).ok = s.ok := rfl
@[simp] theorem setEk_kv (e : ExpandedKey) : (s.setEk e).kv = true := rfl
@[simp] theorem setEk_ek (e : ExpandedKey) : (s.setEk e).ek = e := rfl
@[simp] theorem setEk_pending (e : ExpandedKey) : (s.setEk e).pending = s.pending := rfl
@[simp] theorem setEk_inputs (e : ExpandedKey) : (s.setEk e).inputs = s.inputs := rfl
@[simp] theorem setEk_returned (e : ExpandedKey) : (s.setEk e).returned = s.returned := rfl
@[simp] theorem setEk_draws (e : ExpandedKey) : (s.setEk e).draws = s.draws := rfl
@[simp] theorem setEk_busy (e : ExpandedKey) : (s.setEk e).busy = s.busy := rfl

@[simp] theorem raiseError_keyHi (c : ErrCode) : (s.raiseError c).keyHi = s.keyHi := rfl
@[simp] theorem raiseError_keyLo (c : ErrCode) : (s.raiseError c).keyLo = s.keyLo := rfl
@[simp] theorem raiseError_count (c : ErrCode) : (s.raiseError c).count = s.count := rfl
@[simp] theorem raiseError_dinL (c : ErrCode) : (s.raiseError c).dinL = s.dinL := rfl
@[simp] theorem raiseError_dinR (c : ErrCode) : (s.raiseError c).dinR = s.dinR := rfl
@[simp] theorem raiseError_doutL (c : ErrCode) : (s.raiseError c).doutL = s.doutL := rfl
@[simp] theorem raiseError_doutR (c : ErrCode) : (s.raiseError c).doutR = s.doutR := rfl
@[simp] theorem raiseError_smask (c : ErrCode) : (s.raiseError c).smask = s.smask := rfl
@[simp] theorem raiseError_val (c : ErrCode) : (s.raiseError c).val = s.val := rfl
@[simp] theorem raiseError_char (c : ErrCode) : (s.raiseError c).char = s.char := rfl
@[simp] theorem raiseError_err (c : ErrCode) : (s.raiseError c).err = true := rfl
@[simp] theorem raiseError_errCode (c : ErrCode) : (s.raiseError c).errCode = if s.err then s.errCode else c := rfl
@[simp] theorem raiseError_ok (c : ErrCode) : (s.raiseError c).ok = s.ok := rfl
@[simp] theorem raiseError_kv (c : ErrCode) : (s.raiseError c).kv = s.kv := rfl
@[simp] theorem raiseError_ek (c : ErrCode) : (s.raiseError c).ek = s.ek := rfl
@[simp] theorem raiseError_pending (c : ErrCode) : (s.raiseError c).pending = s.pending := rfl
@[simp] theorem raiseError_inputs (c : ErrCode) : (s.raiseError c).inputs = s.inputs := rfl
@[simp] theorem raiseError_returned (c : ErrCode) : (s.raiseError c).returned = s.returned := rfl
@[simp] theorem raiseError_draws (c : ErrCode) : (s.raiseError c).draws = s.draws := rfl
@[simp] theorem raiseError_busy (c : ErrCode) : (s.raiseError c).busy = s.busy := rfl

@[simp] theorem clearError_keyHi : s.clearError.keyHi = s.keyHi := rfl
@[simp] theorem clearError_keyLo : s.clearError.keyLo = s.keyLo := rfl
@[simp] theorem clearError_count : s.clearError.count = s.count := rfl
@[simp] theorem clearError_dinL : s.clearError.dinL = s.dinL := rfl
@[simp] theorem clearError_dinR : s.clearError.dinR = s.dinR := rfl
@[simp] theorem clearError_doutL : s.clearError.doutL = s.doutL := rfl
@[simp] theorem clearError_doutR : s.clearError.doutR = s.doutR := rfl
@[simp] theorem clearError_smask : s.clearError.smask = s.smask := rfl
@[simp] theorem clearError_val : s.clearError.val = s.val := rfl
@[simp] theorem clearError_char : s.clearError.char = s.char := rfl
@[simp] theorem clearError_err : s.clearError.err = false := rfl
@[simp] theorem clearError_errCode : s.clearError.errCode = .none := rfl
@[simp] theorem clearError_ok : s.clearError.ok = s.ok := rfl
@[simp] theorem clearError_kv : s.clearError.kv = s.kv := rfl
@[simp] theorem clearError_ek : s.clearError.ek = s.ek := rfl
@[simp] theorem clearError_pending : s.clearError.pending = s.pending := rfl
@[simp] theorem clearError_inputs : s.clearError.inputs = s.inputs := rfl
@[simp] theorem clearError_returned : s.clearError.returned = s.returned := rfl
@[simp] theorem clearError_draws : s.clearError.draws = s.draws := rfl
@[simp] theorem clearError_busy : s.clearError.busy = s.busy := rfl

@[simp] theorem accept_keyHi (i : Instr) (o : Operands) (n : Nat) : (s.accept i o n).keyHi = s.keyHi := rfl
@[simp] theorem accept_keyLo (i : Instr) (o : Operands) (n : Nat) : (s.accept i o n).keyLo = s.keyLo := rfl
@[simp] theorem accept_count (i : Instr) (o : Operands) (n : Nat) : (s.accept i o n).count = s.count := rfl
@[simp] theorem accept_dinL (i : Instr) (o : Operands) (n : Nat) : (s.accept i o n).dinL = s.dinL := rfl
@[simp] theorem accept_dinR (i : Instr) (o : Operands) (n : Nat) : (s.accept i o n).dinR = s.dinR := rfl
@[simp] theorem accept_doutL (i : Instr) (o : Operands) (n : Nat) : (s.accept i o n).doutL = s.doutL := rfl
@[simp] theorem accept_doutR (i : Instr) (o : Operands) (n : Nat) : (s.accept i o n).doutR = s.doutR := rfl
@[simp] theorem accept_smask (i : Instr) (o : Operands) (n : Nat) : (s.accept i o n).smask = s.smask := rfl
@[simp] theorem accept_val (i : Instr) (o : Operands) (n : Nat) : (s.accept i o n).val = s.val := rfl
@[simp] theorem accept_char (i : Instr) (o : Operands) (n : Nat) : (s.accept i o n).char = s.char := rfl
@[simp] theorem accept_err (i : Instr) (o : Operands) (n : Nat) : (s.accept i o n).err = s.err := rfl
@[simp] theorem accept_errCode (i : Instr) (o : Operands) (n : Nat) : (s.accept i o n).errCode = s.errCode := rfl
@[simp] theorem accept_ok (i : Instr) (o : Operands) (n : Nat) : (s.accept i o n).ok = s.ok := rfl
@[simp] theorem accept_kv (i : Instr) (o : Operands) (n : Nat) : (s.accept i o n).kv = s.kv := rfl
@[simp] theorem accept_ek (i : Instr) (o : Operands) (n : Nat) : (s.accept i o n).ek = s.ek := rfl
@[simp] theorem accept_pending (i : Instr) (o : Operands) (n : Nat) : (s.accept i o n).pending = some ⟨i, o, n⟩ := rfl
@[simp] theorem accept_inputs (i : Instr) (o : Operands) (n : Nat) : (s.accept i o n).inputs = s.inputs := rfl
@[simp] theorem accept_returned (i : Instr) (o : Operands) (n : Nat) : (s.accept i o n).returned = s.returned := rfl
@[simp] theorem accept_draws (i : Instr) (o : Operands) (n : Nat) : (s.accept i o n).draws = s.draws := rfl
@[simp] theorem accept_busy (i : Instr) (o : Operands) (n : Nat) : (s.accept i o n).busy = true := rfl

@[simp] theorem complete_keyHi : s.complete.keyHi = s.keyHi := rfl
@[simp] theorem complete_keyLo : s.complete.keyLo = s.keyLo := rfl
@[simp] theorem complete_count : s.complete.count = s.count := rfl
@[simp] theorem complete_dinL : s.complete.dinL = s.dinL := rfl
@[simp] theorem complete_dinR : s.complete.dinR = s.dinR := rfl
@[simp] theorem complete_doutL : s.complete.doutL = s.doutL := rfl
@[simp] theorem complete_doutR : s.complete.doutR = s.doutR := rfl
@[simp] theorem complete_smask : s.complete.smask = s.smask := rfl
@[simp] theorem complete_val : s.complete.val = s.val := rfl
@[simp] theorem complete_char : s.complete.char = s.char := rfl
@[simp] theorem complete_err : s.complete.err = s.err := rfl
@[simp] theorem complete_errCode : s.complete.errCode = s.errCode := rfl
@[simp] theorem complete_ok : s.complete.ok = s.ok := rfl
@[simp] theorem complete_kv : s.complete.kv = s.kv := rfl
@[simp] theorem complete_ek : s.complete.ek = s.ek := rfl
@[simp] theorem complete_pending : s.complete.pending = none := rfl
@[simp] theorem complete_inputs : s.complete.inputs = s.inputs := rfl
@[simp] theorem complete_returned : s.complete.returned = s.returned := rfl
@[simp] theorem complete_draws : s.complete.draws = s.draws := rfl
@[simp] theorem complete_busy : s.complete.busy = false := rfl

@[simp] theorem scrub_keyHi : s.scrub.keyHi = 0 := rfl
@[simp] theorem scrub_keyLo : s.scrub.keyLo = 0 := rfl
@[simp] theorem scrub_count : s.scrub.count = 0 := rfl
@[simp] theorem scrub_dinL : s.scrub.dinL = 0 := rfl
@[simp] theorem scrub_dinR : s.scrub.dinR = 0 := rfl
@[simp] theorem scrub_doutL : s.scrub.doutL = 0 := rfl
@[simp] theorem scrub_doutR : s.scrub.doutR = 0 := rfl
@[simp] theorem scrub_smask : s.scrub.smask = 0 := rfl
@[simp] theorem scrub_val : s.scrub.val = 0 := rfl
@[simp] theorem scrub_char : s.scrub.char = 0 := rfl
@[simp] theorem scrub_err : s.scrub.err = s.err := rfl
@[simp] theorem scrub_errCode : s.scrub.errCode = s.errCode := rfl
@[simp] theorem scrub_ok : s.scrub.ok = false := rfl
@[simp] theorem scrub_kv : s.scrub.kv = false := rfl
@[simp] theorem scrub_ek : s.scrub.ek = zeroEk := rfl
@[simp] theorem scrub_pending : s.scrub.pending = s.pending := rfl
@[simp] theorem scrub_inputs : s.scrub.inputs = s.inputs := rfl
@[simp] theorem scrub_returned : s.scrub.returned = s.returned := rfl
@[simp] theorem scrub_draws : s.scrub.draws = s.draws := rfl
@[simp] theorem scrub_busy : s.scrub.busy = s.busy := rfl

@[simp] theorem restart_keyHi : s.restart.keyHi = 0 := rfl
@[simp] theorem restart_keyLo : s.restart.keyLo = 0 := rfl
@[simp] theorem restart_count : s.restart.count = 0 := rfl
@[simp] theorem restart_dinL : s.restart.dinL = 0 := rfl
@[simp] theorem restart_dinR : s.restart.dinR = 0 := rfl
@[simp] theorem restart_doutL : s.restart.doutL = 0 := rfl
@[simp] theorem restart_doutR : s.restart.doutR = 0 := rfl
@[simp] theorem restart_smask : s.restart.smask = 0 := rfl
@[simp] theorem restart_val : s.restart.val = 0 := rfl
@[simp] theorem restart_char : s.restart.char = 0 := rfl
@[simp] theorem restart_err : s.restart.err = false := rfl
@[simp] theorem restart_errCode : s.restart.errCode = .none := rfl
@[simp] theorem restart_ok : s.restart.ok = false := rfl
@[simp] theorem restart_kv : s.restart.kv = false := rfl
@[simp] theorem restart_ek : s.restart.ek = zeroEk := rfl
@[simp] theorem restart_pending : s.restart.pending = none := rfl
@[simp] theorem restart_inputs : s.restart.inputs = s.inputs := rfl
@[simp] theorem restart_returned : s.restart.returned = s.returned := rfl
@[simp] theorem restart_draws : s.restart.draws = s.draws := rfl
@[simp] theorem restart_busy : s.restart.busy = false := rfl

@[simp] theorem setInputs_keyHi (l : List HostOp) : (s.setInputs l).keyHi = s.keyHi := rfl
@[simp] theorem setInputs_keyLo (l : List HostOp) : (s.setInputs l).keyLo = s.keyLo := rfl
@[simp] theorem setInputs_count (l : List HostOp) : (s.setInputs l).count = s.count := rfl
@[simp] theorem setInputs_dinL (l : List HostOp) : (s.setInputs l).dinL = s.dinL := rfl
@[simp] theorem setInputs_dinR (l : List HostOp) : (s.setInputs l).dinR = s.dinR := rfl
@[simp] theorem setInputs_doutL (l : List HostOp) : (s.setInputs l).doutL = s.doutL := rfl
@[simp] theorem setInputs_doutR (l : List HostOp) : (s.setInputs l).doutR = s.doutR := rfl
@[simp] theorem setInputs_smask (l : List HostOp) : (s.setInputs l).smask = s.smask := rfl
@[simp] theorem setInputs_val (l : List HostOp) : (s.setInputs l).val = s.val := rfl
@[simp] theorem setInputs_char (l : List HostOp) : (s.setInputs l).char = s.char := rfl
@[simp] theorem setInputs_err (l : List HostOp) : (s.setInputs l).err = s.err := rfl
@[simp] theorem setInputs_errCode (l : List HostOp) : (s.setInputs l).errCode = s.errCode := rfl
@[simp] theorem setInputs_ok (l : List HostOp) : (s.setInputs l).ok = s.ok := rfl
@[simp] theorem setInputs_kv (l : List HostOp) : (s.setInputs l).kv = s.kv := rfl
@[simp] theorem setInputs_ek (l : List HostOp) : (s.setInputs l).ek = s.ek := rfl
@[simp] theorem setInputs_pending (l : List HostOp) : (s.setInputs l).pending = s.pending := rfl
@[simp] theorem setInputs_inputs (l : List HostOp) : (s.setInputs l).inputs = l := rfl
@[simp] theorem setInputs_returned (l : List HostOp) : (s.setInputs l).returned = s.returned := rfl
@[simp] theorem setInputs_draws (l : List HostOp) : (s.setInputs l).draws = s.draws := rfl
@[simp] theorem setInputs_busy (l : List HostOp) : (s.setInputs l).busy = s.busy := rfl

@[simp] theorem give_keyHi (v : Word) : (s.give v).keyHi = s.keyHi := rfl
@[simp] theorem give_keyLo (v : Word) : (s.give v).keyLo = s.keyLo := rfl
@[simp] theorem give_count (v : Word) : (s.give v).count = s.count := rfl
@[simp] theorem give_dinL (v : Word) : (s.give v).dinL = s.dinL := rfl
@[simp] theorem give_dinR (v : Word) : (s.give v).dinR = s.dinR := rfl
@[simp] theorem give_doutL (v : Word) : (s.give v).doutL = s.doutL := rfl
@[simp] theorem give_doutR (v : Word) : (s.give v).doutR = s.doutR := rfl
@[simp] theorem give_smask (v : Word) : (s.give v).smask = s.smask := rfl
@[simp] theorem give_val (v : Word) : (s.give v).val = s.val := rfl
@[simp] theorem give_char (v : Word) : (s.give v).char = s.char := rfl
@[simp] theorem give_err (v : Word) : (s.give v).err = s.err := rfl
@[simp] theorem give_errCode (v : Word) : (s.give v).errCode = s.errCode := rfl
@[simp] theorem give_ok (v : Word) : (s.give v).ok = s.ok := rfl
@[simp] theorem give_kv (v : Word) : (s.give v).kv = s.kv := rfl
@[simp] theorem give_ek (v : Word) : (s.give v).ek = s.ek := rfl
@[simp] theorem give_pending (v : Word) : (s.give v).pending = s.pending := rfl
@[simp] theorem give_inputs (v : Word) : (s.give v).inputs = s.inputs := rfl
@[simp] theorem give_returned (v : Word) : (s.give v).returned = v :: s.returned := rfl
@[simp] theorem give_draws (v : Word) : (s.give v).draws = s.draws := rfl
@[simp] theorem give_busy (v : Word) : (s.give v).busy = s.busy := rfl

@[simp] theorem giveDraw_keyHi : s.giveDraw.keyHi = s.keyHi := rfl
@[simp] theorem giveDraw_keyLo : s.giveDraw.keyLo = s.keyLo := rfl
@[simp] theorem giveDraw_count : s.giveDraw.count = s.count := rfl
@[simp] theorem giveDraw_dinL : s.giveDraw.dinL = s.dinL := rfl
@[simp] theorem giveDraw_dinR : s.giveDraw.dinR = s.dinR := rfl
@[simp] theorem giveDraw_doutL : s.giveDraw.doutL = s.doutL := rfl
@[simp] theorem giveDraw_doutR : s.giveDraw.doutR = s.doutR := rfl
@[simp] theorem giveDraw_smask : s.giveDraw.smask = s.smask := rfl
@[simp] theorem giveDraw_val : s.giveDraw.val = s.val := rfl
@[simp] theorem giveDraw_char : s.giveDraw.char = s.char := rfl
@[simp] theorem giveDraw_err : s.giveDraw.err = s.err := rfl
@[simp] theorem giveDraw_errCode : s.giveDraw.errCode = s.errCode := rfl
@[simp] theorem giveDraw_ok : s.giveDraw.ok = s.ok := rfl
@[simp] theorem giveDraw_kv : s.giveDraw.kv = s.kv := rfl
@[simp] theorem giveDraw_ek : s.giveDraw.ek = s.ek := rfl
@[simp] theorem giveDraw_pending : s.giveDraw.pending = s.pending := rfl
@[simp] theorem giveDraw_inputs : s.giveDraw.inputs = s.inputs := rfl
@[simp] theorem giveDraw_returned : s.giveDraw.returned = Config.draw s.draws :: s.returned := rfl
@[simp] theorem giveDraw_draws : s.giveDraw.draws = s.draws + 1 := rfl
@[simp] theorem giveDraw_busy : s.giveDraw.busy = s.busy := rfl

@[simp] theorem tick_keyHi (p : Pending) (n : Nat) : (s.tick p n).keyHi = s.keyHi := rfl
@[simp] theorem tick_keyLo (p : Pending) (n : Nat) : (s.tick p n).keyLo = s.keyLo := rfl
@[simp] theorem tick_count (p : Pending) (n : Nat) : (s.tick p n).count = s.count := rfl
@[simp] theorem tick_dinL (p : Pending) (n : Nat) : (s.tick p n).dinL = s.dinL := rfl
@[simp] theorem tick_dinR (p : Pending) (n : Nat) : (s.tick p n).dinR = s.dinR := rfl
@[simp] theorem tick_doutL (p : Pending) (n : Nat) : (s.tick p n).doutL = s.doutL := rfl
@[simp] theorem tick_doutR (p : Pending) (n : Nat) : (s.tick p n).doutR = s.doutR := rfl
@[simp] theorem tick_smask (p : Pending) (n : Nat) : (s.tick p n).smask = s.smask := rfl
@[simp] theorem tick_val (p : Pending) (n : Nat) : (s.tick p n).val = s.val := rfl
@[simp] theorem tick_char (p : Pending) (n : Nat) : (s.tick p n).char = s.char := rfl
@[simp] theorem tick_err (p : Pending) (n : Nat) : (s.tick p n).err = s.err := rfl
@[simp] theorem tick_errCode (p : Pending) (n : Nat) : (s.tick p n).errCode = s.errCode := rfl
@[simp] theorem tick_ok (p : Pending) (n : Nat) : (s.tick p n).ok = s.ok := rfl
@[simp] theorem tick_kv (p : Pending) (n : Nat) : (s.tick p n).kv = s.kv := rfl
@[simp] theorem tick_ek (p : Pending) (n : Nat) : (s.tick p n).ek = s.ek := rfl
@[simp] theorem tick_pending (p : Pending) (n : Nat) : (s.tick p n).pending = some { p with wait := n } := rfl
@[simp] theorem tick_inputs (p : Pending) (n : Nat) : (s.tick p n).inputs = s.inputs := rfl
@[simp] theorem tick_returned (p : Pending) (n : Nat) : (s.tick p n).returned = s.returned := rfl
@[simp] theorem tick_draws (p : Pending) (n : Nat) : (s.tick p n).draws = s.draws := rfl
@[simp] theorem tick_busy (p : Pending) (n : Nat) : (s.tick p n).busy = true := rfl

/-- An idle block's operands are its registers (R225). -/
theorem operands_of_idle (h : s.pending = none) : s.operands = s.live := by
  simp [operands, h]

/-- A pending command's operands are those fixed at its acceptance (R225). -/
theorem operands_of_pending (p : Pending) (h : s.pending = some p) : s.operands = p.ops := by
  simp [operands, h]

/-- Acceptance fixes the registers a command reads. -/
@[simp] theorem operands_accept (i : Instr) (n : Nat) : (s.accept i s.live n).operands = s.live := rfl

/-- What a step adds to the inputs does not touch the operands. -/
@[simp] theorem operands_setInputs (l : List HostOp) : (s.setInputs l).operands = s.operands := rfl

/-- BUSY = 0 says that no command is pending (R34). -/
theorem busy_eq_false_iff : s.busy = false ↔ s.pending = none := by
  simp [busy]

/-- BUSY = 1 says that a command is pending (R34). -/
theorem busy_eq_true_iff : s.busy = true ↔ ∃ p, s.pending = some p := by
  simp [busy, Option.isSome_iff_exists]

end Sys2Proof.Machine.State
end

