-- ==== Sys2Proof/Laws/Ops.lean ====
section
/-! SUPPORT. What the bit-level helpers give, bit by bit. -/

namespace Sys2Proof.Machine

/-- DES bit k of perm(v, T, w) is DES bit T[k] of v (R9), counting from 0. -/
theorem perm_getMsbD {w m : Nat} (table : List Nat) (v : BitVec w) (h : table.length = m) (k : Nat) :
    (perm m table v).getMsbD k = ((table[k]?).map fun n => v.getMsbD (n - 1)).getD false := by
  subst h
  unfold perm
  simp [BitVec.getMsbD_setWidth, BitVec.getMsbD_ofBoolListBE, List.getD_eq_getElem?_getD]

/-- A permutation table commutes with the complement (R9): every entry names a bit of the input. -/
theorem perm_not {w m : Nat} (table : List Nat) (v : BitVec w) (h : table.length = m)
    (hT : ∀ n ∈ table, 1 ≤ n ∧ n ≤ w) : perm m table (~~~v) = ~~~(perm m table v) := by
  apply BitVec.eq_of_getMsbD_eq
  intro i hi
  rw [perm_getMsbD _ _ h, BitVec.getMsbD_not, perm_getMsbD _ _ h]
  have hl : i < table.length := by omega
  simp only [List.getElem?_eq_getElem hl, Option.map_some, Option.getD_some, BitVec.getMsbD_not]
  have hn := hT _ (List.getElem_mem hl)
  have hw : table[i] - 1 < w := by omega
  simp [hi, hw]

/-- The two halves of a 64-bit value, put together again, are the value. -/
theorem block_of_halves (v : BitVec 64) : (v.extractLsb' 32 32 ++ v.extractLsb' 0 32 : BitVec 64) = v := by
  apply BitVec.eq_of_getLsbD_eq
  intro i hi
  rw [BitVec.getLsbD_append]
  by_cases h : i < 32
  · simp [h]
  · have h2 : i - 32 < 32 := by omega
    have h3 : 32 + (i - 32) = i := by omega
    simp [h, h2, h3]

/-- The upper half of two words put together is the first. -/
theorem upper_of_append (a b : Word) : (a ++ b : BitVec 64).extractLsb' 32 32 = a := by
  apply BitVec.eq_of_getLsbD_eq
  intro i hi
  rw [BitVec.getLsbD_extractLsb', BitVec.getLsbD_append]
  simp [hi]

/-- The lower half of two words put together is the second. -/
theorem lower_of_append (a b : Word) : (a ++ b : BitVec 64).extractLsb' 0 32 = b := by
  apply BitVec.eq_of_getLsbD_eq
  intro i hi
  rw [BitVec.getLsbD_extractLsb', BitVec.getLsbD_append]
  simp [hi]

/-- Mask bit i of saltexp is salt bit 23 - i (R121). -/
theorem saltexp_getLsbD (s : Half24) (i : Nat) (h : i < 24) : (saltexp s).getLsbD i = s.getLsbD (23 - i) := by
  unfold saltexp
  rw [BitVec.getLsbD_setWidth, BitVec.getLsbD_eq_getMsbD, BitVec.getMsbD_ofBoolListBE]
  simp only [List.length_map, List.length_range, h, decide_true, Bool.true_and]
  rw [List.getD_eq_getElem?_getD, List.getElem?_map, List.getElem?_range (by omega)]
  simp

end Sys2Proof.Machine
end

