-- ==== Sys2Proof/Laws/PerInstr.lean ====
section
/-! SUPPORT. A law of every command as syntax, one lemma per constructor: its word matches its row of the opcode map
(R72). -/

namespace Sys2Proof.Laws.TableRow

/-- The command's word, cut by its row's mask, is its row's match value (R72, R81). -/
def Statement (i : Instr) : Prop := encode i &&& rowMask i = rowMatch i

/-- KSCHED's word matches its row. -/
theorem ksched : Statement .ksched := by
  unfold Statement
  decide

/-- SALTX's word matches its row. -/
theorem saltx (s : Half24) : Statement (.saltx s) := by
  unfold Statement encode rowMask rowMatch
  ext k hk
  simp only [BitVec.getElem_and, BitVec.getElem_or, BitVec.getElem_setWidth]
  rcases Nat.lt_or_ge k 24 with h | h
  · have : (0xFF000000#32)[k] = false := by revert hk; revert k; decide
    simp [this]
    revert hk h; revert k; decide
  · simp [BitVec.getLsbD_of_ge s k h]
    revert hk h; revert k; decide

/-- DESRUN's word matches its row. -/
theorem desrun : Statement .desrun := by
  unfold Statement
  decide

/-- ENC's word matches its row. -/
theorem enc (v : BitVec 6) : Statement (.enc v) := by
  unfold Statement
  revert v
  decide

/-- DEC's word matches its row. -/
theorem dec (c : Byte) : Statement (.dec c) := by
  unfold Statement
  revert c
  decide

/-- CLRERR's word matches its row. -/
theorem clrerr : Statement .clrerr := by
  unfold Statement
  decide

/-- ZEROIZE's word matches its row. -/
theorem zeroize : Statement .zeroize := by
  unfold Statement
  decide

end Sys2Proof.Laws.TableRow
end

