-- ==== Sys2Proof/Laws/Step.lean ====
section
/-! SUPPORT. Everything a command can do, everything an operation from outside can do, and everything one step can do:
one inversion lemma each, which later proofs cite instead of unfolding. -/

namespace Sys2Proof.Machine

/-- The state a command leaves where it completes, before BUSY is cleared: its effect, or NO_KEY (R160). -/
def effect (i : Instr) (s : State) : State :=
  match i with
  | .ksched => s.setEk (schedule s.operands.key)
  | .saltx salt => s.setSmask (saltexp salt)
  | .desrun =>
    if s.operands.kv then
      let y := desRun s.operands.ek s.operands.smask s.operands.count.toNat s.operands.din
      s.setDout (y.extractLsb' 32 32) (y.extractLsb' 0 32)
    else s.raiseError .noKey
  | .enc v => s.setChar (a64 v)
  | .dec c => s.setVal (decodeChar c) (a64 (decodeChar c) == c)
  | .clrerr => s.clearError
  | .zeroize => s.scrub

/-- A command ends in a next state on every path: its effect, and nothing pending. -/
theorem exec_eq_effect (i : Instr) (s : State) : exec i s = .next (effect i s).complete := by
  cases i with
  | desrun => simp only [exec, execDesrun, effect]; split <;> rfl
  | _ => rfl

/-- The effect of a command touches neither the outside's fields nor the pending command. -/
theorem effect_outside (i : Instr) (s : State) :
    (effect i s).inputs = s.inputs ∧ (effect i s).returned = s.returned ∧ (effect i s).draws = s.draws
      ∧ (effect i s).pending = s.pending := by
  cases i with
  | desrun => simp only [effect]; split <;> simp
  | _ => simp [effect]

/-- Everything a read can do (R51, R226). -/
theorem hostRead_cases {a : Access} {s t : State} (h : hostRead a s = .next t) :
    (∃ slot, slotAt a = some slot ∧ (s.busy = true → slot = .id ∨ slot = .status) ∧ t = s.give (readSlot s slot))
    ∨ (∃ slot, slotAt a = some slot ∧ s.busy = true ∧ slot ≠ .id ∧ slot ≠ .status ∧ t = s.giveDraw) := by
  unfold hostRead at h
  split at h
  · cases h
  · rename_i slot hs
    split at h <;> rename_i hc <;> cases h
    · exact .inr ⟨slot, hs, hc.1, hc.2.1, hc.2.2, rfl⟩
    · refine .inl ⟨slot, hs, fun hb => ?_, rfl⟩
      by_contra hn
      exact hc ⟨hb, fun he => hn (.inl he), fun he => hn (.inr he)⟩

/-- Everything a command word can do to an idle block (R71). -/
theorem command_cases {w : Word} {lat : Nat} {s t : State} (h : command w lat s = .next t) :
    ((∃ e, decode w = .error e) ∧ t = s.raiseError .illegalCmd)
    ∨ (∃ i, decode w = .ok i ∧ lat = 0 ∧ t = (effect i s).complete)
    ∨ (∃ i n, decode w = .ok i ∧ lat = n + 1 ∧ i = .desrun ∧ s.kv = false ∧ t = s.raiseError .noKey)
    ∨ (∃ i n, decode w = .ok i ∧ lat = n + 1 ∧ (i = .desrun → s.kv = true) ∧ t = s.accept i s.live n) := by
  unfold command at h
  split at h
  · rename_i e hd
    cases h
    exact .inl ⟨⟨e, hd⟩, rfl⟩
  · rename_i i hd
    cases lat with
    | zero =>
      rw [exec_eq_effect] at h
      cases h
      exact .inr (.inl ⟨i, hd, rfl, rfl⟩)
    | succ n =>
      simp only [issue] at h
      split at h <;> rename_i hc <;> cases h
      · exact .inr (.inr (.inl ⟨i, n, hd, rfl, hc.1, hc.2, rfl⟩))
      · refine .inr (.inr (.inr ⟨i, n, hd, rfl, fun hi => ?_, rfl⟩))
        by_contra hk
        exact hc ⟨hi, by simpa using hk⟩

/-- Everything a write can do (R52, R226). -/
theorem hostWrite_cases {a : Access} {v : Word} {lat : Nat} {s t : State} (h : hostWrite a v lat s = .next t) :
    (s.busy = true ∧ t = s.raiseError .busyWrite)
    ∨ (s.busy = false ∧ ∃ slot, slotAt a = some slot ∧ writeSlot v lat s slot = .next t) := by
  unfold hostWrite at h
  split at h
  · cases h
  · rename_i slot hs
    split at h <;> rename_i hb
    · cases h
      exact .inl ⟨hb, rfl⟩
    · exact .inr ⟨by simpa using hb, slot, hs, h⟩

/-- Everything one step can do (R13): the engine's completion, an operation from outside, or nothing at all. -/
theorem step_cases {s t : State} (h : step s = .next t) :
    (∃ p, s.pending = some p ∧ p.wait = 0 ∧ t = (effect p.instr s).complete)
    ∨ (∃ p n, s.pending = some p ∧ p.wait = n + 1 ∧ hostTurn (s.tick p n) = .next t)
    ∨ (s.pending = none ∧ hostTurn s = .next t) := by
  unfold step at h
  split at h
  · rename_i hp
    exact .inr (.inr ⟨hp, h⟩)
  · rename_i p hp
    split at h
    · rename_i hw
      rw [exec_eq_effect] at h
      cases h
      exact .inl ⟨p, hp, hw, rfl⟩
    · rename_i n hw
      exact .inr (.inl ⟨p, n, hp, hw, h⟩)

/-- Everything an operation from outside can do. -/
theorem hostTurn_cases {s t : State} (h : hostTurn s = .next t) :
    (s.inputs = [] ∧ t = s) ∨ ∃ op rest, s.inputs = op :: rest ∧ hostAct op (s.setInputs rest) = .next t := by
  unfold hostTurn at h
  split at h
  · rename_i hi
    cases h
    exact .inl ⟨hi, rfl⟩
  · rename_i op rest hi
    exact .inr ⟨op, rest, hi, h⟩

/-- An operation from outside other than reset leaves a busy block as it is, but for the error record and the outside's
own fields (R226). -/
theorem hostTurn_busy {s t : State} (hb : s.busy = true) (hr : s.inputs.head? ≠ some .reset)
    (h : hostTurn s = .next t) :
    t = { s with
      err := t.err, errCode := t.errCode, inputs := t.inputs, returned := t.returned, draws := t.draws } := by
  obtain ⟨_, rfl⟩ | ⟨op, rest, hi, ha⟩ := hostTurn_cases h
  · rfl
  cases op with
  | read a => obtain ⟨_, _, _, rfl⟩ | ⟨_, _, _, _, _, rfl⟩ := hostRead_cases ha <;> rfl
  | write a v lat =>
    obtain ⟨_, rfl⟩ | ⟨hn, _⟩ := hostWrite_cases ha
    · rfl
    · simp [hb] at hn
  | wait =>
    cases ha
    split <;> rfl
  | reset => simp [hi] at hr

/-- Where raising an error changes anything, ERR was 0 and the code is now recorded (R202). -/
theorem raiseError_changed {s : State} {c : ErrCode} (h : s.raiseError c ≠ s) :
    s.err = false ∧ (s.raiseError c).err = true ∧ (s.raiseError c).errCode = c := by
  cases he : s.err with
  | false => simp [State.raiseError, he]
  | true => exact absurd (by cases s; simp_all [State.raiseError]) h

/-- A run whose first step has a next state goes on from it. -/
theorem run_succ {s t : State} (k : Nat) (h : step s = .next t) :
    Host.Core.run core (k + 1) s = Host.Core.run core k t := by
  have h' : core.step s = .next t := h
  simp only [Host.Core.run]
  rw [h']

/-- What passes with one count after another do (R158). -/
theorem passes_add (ek : ExpandedKey) (m : Half24) (a b : Nat) (h : Halves) :
    passes ek m (a + b) h = passes ek m b (passes ek m a h) := by
  induction a generalizing h with
  | zero => simp [passes]
  | succ n ih => rw [Nat.succ_add]; exact ih _

end Sys2Proof.Machine
end

