-- ==== Sys2Proof/Tests/Slice0.lean ====
section
/-! SUPPORT. Tests: ill-formed terms the checks refuse, words written out from R72 and R81, one step of each command with
the results spec/95_test_vectors.md gives, the window and the command lifecycle; then, for every statement with
hypotheses, a state and operands that meet them. -/

open Sys2Proof Sys2Proof.Machine

namespace Sys2Proof.Tests

/-! ## Ill-formed terms -/

/-- A must-be-zero bit of a command with no operand (R73). -/
theorem test_legal_refuses_operand_of_none : legal 0x01 0x000001 = false ∧ legal 0x0E 0x800000 = false := by decide

/-- Must-be-zero bits 23:6 of imm6 (R73). -/
theorem test_legal_refuses_wide_imm6 : legal 0x04 0x000040 = false ∧ legal 0x04 0x800000 = false := by decide

/-- Must-be-zero bits 23:8 of imm8 (R73). -/
theorem test_legal_refuses_wide_imm8 : legal 0x05 0x000100 = false ∧ legal 0x05 0x800000 = false := by decide

/-- Unassigned opcodes (R75). -/
theorem test_legal_refuses_unassigned : legal 0x00 0 = false ∧ legal 0x06 0 = false ∧ legal 0x10 0 = false := by decide

/-- The assembler refuses each operand one past its range and takes the last one in it (R81). -/
theorem test_assembler_ranges :
    assemble (.saltx (2 ^ 24)) = none ∧ assemble (.saltx (2 ^ 24 - 1)) = some 0x02FFFFFF
    ∧ assemble (.enc 64) = none ∧ assemble (.enc 63) = some 0x0400003F
    ∧ assemble (.dec 256) = none ∧ assemble (.dec 255) = some 0x050000FF := by decide

/-! ## Words -/

/-- 00000001 and 24 zeros (R72). -/
theorem test_decode_ksched : decode 0b00000001000000000000000000000000 = .ok .ksched := by decide

/-- 00000010 and the salt 1111 1110 0101 0010 1100 0001 (R72). -/
theorem test_decode_saltx : decode 0b00000010111111100101001011000001 = .ok (.saltx 0xFE52C1) := by decide

/-- 00000011 and 24 zeros (R72). -/
theorem test_decode_desrun : decode 0b00000011000000000000000000000000 = .ok .desrun := by decide

/-- 00000100, 18 zeros, 100101 (R72, R102's example). -/
theorem test_decode_enc : decode 0b00000100000000000000000000100101 = .ok (.enc 37) := by decide

/-- 00000101, 16 zeros, 01111010 (R72, R104's example). -/
theorem test_decode_dec : decode 0b00000101000000000000000001111010 = .ok (.dec 0x7A) := by decide

/-- 00001110 and 24 zeros (R72). -/
theorem test_decode_clrerr : decode 0b00001110000000000000000000000000 = .ok .clrerr := by decide

/-- 00001111 and 24 zeros (R72). -/
theorem test_decode_zeroize : decode 0b00001111000000000000000000000000 = .ok .zeroize := by decide

/-- The same words numbered as the opcode table numbers their bits. -/
theorem test_decodeTableWord :
    decodeTableWord 32 0x01000000 = some .ksched ∧ decodeTableWord 32 0x02000000 = some (.saltx 0)
    ∧ decodeTableWord 32 0x03000000 = some .desrun ∧ decodeTableWord 32 0x04000000 = some (.enc 0)
    ∧ decodeTableWord 32 0x05000000 = some (.dec 0) ∧ decodeTableWord 32 0x0E000000 = some .clrerr
    ∧ decodeTableWord 32 0x0F000000 = some .zeroize ∧ decodeTableWord 32 0x06000000 = none := by decide

/-! ## States for the tests -/

/-- What a next state holds, read by f; nothing where there is none. -/
def after {α : Type} (o : Host.Outcome State Fault Refusal) (f : State → α) : Option α :=
  match o with
  | .next t => some (f t)
  | .fault _ => none
  | .refused _ => none

/-- The reset state with the textbook key and block and COUNT = 1 (95_test_vectors.md P1). -/
def loaded : State :=
  { State.reset with keyHi := 0x13345779, keyLo := 0x9BBCDFF1, count := 1, dinL := 0x01234567, dinR := 0x89ABCDEF }

/-- That state after KSCHED. -/
def keyed : State := { loaded with ek := schedule 0x133457799BBCDFF1, kv := true }

/-- A block with KV = 1 and a DESRUN pending that waits n more steps. -/
def running (n : Nat) : State :=
  { State.reset with kv := true, pending := some ⟨.desrun, { State.reset.live with kv := true }, n⟩ }

/-! ## Commands -/

/-- R130's example: EK.L[0], EK.R[0], EK.L[15], EK.R[15] and KV. -/
theorem test_ksched_classic :
    after (exec .ksched loaded) (fun t => (t.ek[0], t.ek[15], t.kv))
      = some (⟨0x1B02EF, 0xFC7072⟩, ⟨0xCB3D8B, 0x0E17F5⟩, true) := by decide +kernel

/-- 95_test_vectors.md section 2.3: rounds 9 and 10 of the same key, where the shift schedule is not 2. -/
theorem test_ksched_middle :
    after (exec .ksched loaded) (fun t => (t.ek[8], t.ek[9]))
      = some (⟨0xE0DBEB, 0xEDE781⟩, ⟨0xB1F347, 0xBA464F⟩) := by decide +kernel

/-- R120's example: salt bit 0 goes to mask bit 23. -/
theorem test_saltx_bit0 :
    after (exec (.saltx 0x000001) State.reset) (fun t => readSlot t .smask) = some 0x00800000 := by decide

/-- 95_test_vectors.md section 2.2. -/
theorem test_saltx_pattern :
    after (exec (.saltx 0xFE52C1) State.reset) (fun t => readSlot t .smask) = some 0x00834A7F := by decide

/-- R150's example: the textbook vector. -/
theorem test_desrun_classic :
    after (exec .desrun keyed) (fun t => (t.doutL, t.doutR)) = some (0x85E81354, 0x0F0AB405) := by decide +kernel

/-- 95_test_vectors.md section 2.4: the same with salt 0x123456, whose mask is 0x6A2C48. -/
theorem test_desrun_salted :
    after (exec .desrun { keyed with smask := 0x6A2C48 }) (fun t => (t.doutL, t.doutR))
      = some (0xE82CB207, 0x2A775355) := by decide +kernel

/-- 95_test_vectors.md section 2.4, step 1 of the trace: F of the first right half. -/
theorem test_roundF_trace : roundF 0xF0AAF0AA ⟨0x1B02EF, 0xFC7072⟩ 0 = 0x234AA9BB := by decide +kernel

/-- R102's example: ENC 37 is Z, and VAL is kept. -/
theorem test_enc_37 :
    after (exec (.enc 37) { State.reset with val := 5 }) (fun t => t.codec) = some 0x00005A05 := by decide

/-- R102's corner cases. -/
theorem test_enc_ends :
    after (exec (.enc 0) State.reset) (fun t => t.char) = some 0x2E
    ∧ after (exec (.enc 63) State.reset) (fun t => t.char) = some 0x7A := by decide

/-- R104: a byte read as negative, 0xFF, gives VAL 17 and clears OK. -/
theorem test_dec_signed :
    after (exec (.dec 0xFF) { State.reset with ok := true }) (fun t => (t.val, t.ok)) = some (17, false) := by decide

/-- R104's example: z gives 63 and OK, and CHAR is kept. -/
theorem test_dec_z :
    after (exec (.dec 0x7A) { State.reset with char := 0x41 }) (fun t => (t.codec, t.status))
      = some (0x0000413F, 0x00000004) := by decide

/-- R180's example: STATUS 0x00000202 becomes 0. -/
theorem test_clrerr_clears :
    after (exec .clrerr { State.reset with err := true, errCode := .noKey }) (fun t => t.status) = some 0 := by decide

/-- 95_test_vectors.md section 2.5: ZEROIZE keeps ERR and ERRCODE and clears OK and KV. -/
theorem test_zeroize_keeps_errors :
    after (exec .zeroize { keyed with ok := true, err := true, errCode := .noKey }) (fun t => (t.status, t.keyHi, t.dinL))
      = some (0x00000202, 0, 0) := by decide

/-- R182: ZEROIZE clears the last entry of EK. -/
theorem test_zeroize_clears_ek :
    after (exec .zeroize { State.reset with ek := State.reset.ek.set 15 ⟨1, 2⟩ }) (fun t => t.ek[15])
      = some ⟨0, 0⟩ := by decide

/-! ## Steps -/

/-- The harness's word runs as the first command after reset, one per row; DESRUN records NO_KEY. -/
theorem test_first_step_runs_the_word :
    after (step (State.reset.withFetchWord 32 0x01000000)) (fun t => (t.kv, t.inputs)) = some (true, [])
    ∧ after (step (State.reset.withFetchWord 32 0x02000001)) (fun t => t.smask) = some 0x800000
    ∧ after (step (State.reset.withFetchWord 32 0x03000000)) (fun t => t.status) = some 0x00000202
    ∧ after (step (State.reset.withFetchWord 32 0x04000005)) (fun t => t.char) = some 0x33
    ∧ after (step (State.reset.withFetchWord 32 0x05000061)) (fun t => t.val) = some 38
    ∧ after (step (State.reset.withFetchWord 32 0x0E000000)) (fun t => t.status) = some 0
    ∧ after (step (State.reset.withFetchWord 32 0x0F000000)) (fun t => t.status) = some 0 := by decide

/-- 95_test_vectors.md section 2.5: an illegal word with ERR already set keeps the first code. -/
theorem test_first_error_kept :
    after (step (State.withFetchWord { State.reset with err := true, errCode := .noKey } 32 0x00000000))
      (fun t => t.status) = some 0x00000202 := by decide

/-- P7: a DESRUN of latency 3 is accepted: BUSY and KV, and nothing is done yet. -/
theorem test_accept :
    after (step { State.reset with kv := true, inputs := [.write (wordAt 0x04) 0x03000000 3] })
      (fun t => (t.status, t.doutL)) = some (0x00000009, 0) := by decide

/-- P7: a write while BUSY is dropped: STATUS 0x0000030B, COUNT unchanged. -/
theorem test_busy_write :
    after (step { running 1 with inputs := [.write (wordAt 0x14) 5 0] }) (fun t => (t.status, t.count))
      = some (0x0000030B, 0) := by decide

/-- R226: a STATUS read while BUSY returns STATUS; a DOUT read counts one draw. -/
theorem test_busy_reads :
    after (step { running 1 with inputs := [.read (wordAt 0x08)] }) (fun t => t.returned) = some [0x00000009]
    ∧ after (step { running 1 with inputs := [.read (wordAt 0x20)] }) (fun t => (t.draws, t.returned.length))
      = some (1, 1) := by decide

/-- R224: the completion clears only BUSY of STATUS; the host's operation still waits. -/
theorem test_completion :
    after (step { running 0 with err := true, errCode := .busyWrite, inputs := [.wait] })
      (fun t => (t.status, t.inputs)) = some (0x0000030A, [.wait]) := by decide

/-- R221: reset abandons a pending command. -/
theorem test_reset_abandons :
    after (step { running 2 with inputs := [.reset] }) (fun t => t) = some State.reset := by decide

/-- R55: a half-word access has no step. -/
theorem test_subword :
    (match step { State.reset with inputs := [.read ⟨.half, 0x08⟩] } with
      | .refused .subwordAccess => true
      | _ => false) = true := by decide

/-- R222: with nothing to come, an idle block stays as it is. -/
theorem test_idle : after (step State.reset) (fun t => t) = some State.reset := by decide

/-! ## Witnesses: states and operands that meet the statements' hypotheses -/

/-- EncodeOfDecodeGivesWordBack, at the last operand of each form. -/
theorem witness_decoded :
    decode 0x01000000 = .ok .ksched ∧ decode 0x02FFFFFF = .ok (.saltx 0xFFFFFF) ∧ decode 0x0400003F = .ok (.enc 63)
    ∧ decode 0x050000FF = .ok (.dec 0xFF) := by decide

/-- WordEncodesCommandExactlyByItsRow: a word of a row, and unassigned opcodes at the ends of their ranges. -/
theorem witness_rows :
    (0x0400003F : Word) &&& rowMask (.enc 0) = rowMatch (.enc 0)
    ∧ (opcOf 0x00000000).toNat ∉ [0x01, 0x02, 0x03, 0x04, 0x05, 0x0E, 0x0F]
    ∧ (opcOf 0x06000000).toNat ∉ [0x01, 0x02, 0x03, 0x04, 0x05, 0x0E, 0x0F]
    ∧ (opcOf 0x0D000000).toNat ∉ [0x01, 0x02, 0x03, 0x04, 0x05, 0x0E, 0x0F]
    ∧ (opcOf 0xFF000000).toNat ∉ [0x01, 0x02, 0x03, 0x04, 0x05, 0x0E, 0x0F] := by decide

/-- LegalWordsAreThoseDecoded, ErrorPriority: illegal words, one of each kind, and an idle block. -/
theorem witness_illegal :
    legal (opcOf 0x01000001) (opndOf 0x01000001) = false ∧ legal (opcOf 0x04000040) (opndOf 0x04000040) = false
    ∧ legal (opcOf 0x05000100) (opndOf 0x05000100) = false ∧ legal (opcOf 0x00000000) (opndOf 0x00000000) = false
    ∧ State.reset.pending = none ∧ State.reset.kv = false := by decide

/-- AssemblerWordsAndRefusals. -/
theorem witness_assembled : assemble (.enc 63) = some 0x0400003F := by decide

/-- StepRunsTheDecodedCommand, each clause. -/
theorem witness_step :
    (running 0).pending = some ⟨.desrun, { State.reset.live with kv := true }, 0⟩
    ∧ (State.reset.withFetchWord 32 0x01000000).pending = none
    ∧ (State.reset.withFetchWord 32 0x01000000).inputs = [.write (wordAt 0x04) 0x01000000 0]
    ∧ ({ State.reset with inputs := [.write (wordAt 0x04) 0x01000000 1] } : State).pending = none
    ∧ decode 0x01000000 = .ok .ksched
    ∧ decodeTableWord 32 0x01000000 = some .ksched := by decide

/-- StepRunsTheDecodedCommand, the outside's turn: a read and a write next, and nothing next, on an idle block and on one
that waits. -/
theorem witness_outside_turn :
    State.reset.pending = none ∧ State.reset.inputs = []
    ∧ ({ State.reset with inputs := [.read (wordAt 0x3C)] } : State).inputs = [.read (wordAt 0x3C)]
    ∧ ({ State.reset with inputs := [.write (wordAt 0x04) 0 0] } : State).inputs = [.write (wordAt 0x04) 0 0]
    ∧ (running 1).pending = some ⟨.desrun, { State.reset.live with kv := true }, 0 + 1⟩ ∧ (running 1).inputs = []
    ∧ ({ running 1 with inputs := [.read (wordAt 0x20)] } : State).inputs = [.read (wordAt 0x20)]
    ∧ ({ running 1 with inputs := [.write (wordAt 0x04) 0 0] } : State).inputs = [.write (wordAt 0x04) 0 0] := by
  decide

/-- CommandAcceptance, RecordedErrorStaysAndBlocksNothing: each outcome of an idle block's command word. -/
theorem witness_acceptance :
    State.reset.pending = none
    ∧ decode 0x00000000 = .error (.unassignedOpcode 0)
    ∧ (decode 0x03000000 = .ok .desrun ∧ State.reset.kv = false)
    ∧ (decode 0x03000000 = .ok .desrun ∧ ({ State.reset with kv := true } : State).kv = true)
    ∧ (decode 0x01000000 = .ok .ksched ∧ Instr.ksched ≠ .desrun) := by decide

/-- CompletionIsOneStepWhateverTheLatency, PendingCommandCompletes, AccessWhileBusy, ErrorPriority,
ClrerrClearsTheErrorRecord: a pending command, at the end of its wait and before it. -/
theorem witness_pending :
    (running 0).pending = some ⟨.desrun, { State.reset.live with kv := true }, 0⟩
    ∧ (running 2).pending = some ⟨.desrun, { State.reset.live with kv := true }, 2⟩
    ∧ ∀ op ∈ ({ running 2 with inputs := [.read (wordAt 0x20), .wait, .reset] } : State).inputs.take 2,
      op ≠ .reset ∧ op.subword = false := by decide

/-- DisciplinedHostSeesNoLatency, DisciplinedHostMeetsNoHazard: a disciplined host, with a latency. -/
theorem witness_hazardFree :
    hazardFree [.write (wordAt 0x0C) 1 0, .write (wordAt 0x04) 0x01000000 5, .wait, .read (wordAt 0x08), .reset] = true
    ∧ State.reset.pending = none := by decide

/-- DisciplinedHostMeetsNoHazard, with a command pending. -/
theorem witness_disciplined : ({ running 3 with inputs := [.wait, .read (wordAt 0x20)] } : State).Disciplined :=
  ⟨by decide, by decide⟩

/-- The words with a nonzero must-be-zero operand bit that the commands' statements name, each at its boundary, and the
words with opcode 0x02. -/
theorem witness_operand_bits :
    (opcOf 0x01000001 = 0x01 ∧ opndOf 0x01000001 ≠ 0) ∧ (opcOf 0x03800000 = 0x03 ∧ opndOf 0x03800000 ≠ 0)
    ∧ (opcOf 0x04000040 = 0x04 ∧ opndOf 0x04000040 &&& 0xFFFFC0 ≠ 0)
    ∧ (opcOf 0x05000100 = 0x05 ∧ opndOf 0x05000100 &&& 0xFFFF00 ≠ 0)
    ∧ (opcOf 0x0E000001 = 0x0E ∧ opndOf 0x0E000001 ≠ 0) ∧ (opcOf 0x0F000001 = 0x0F ∧ opndOf 0x0F000001 ≠ 0)
    ∧ opcOf 0x02FFFFFF = 0x02 ∧ State.reset.pending = none := by decide

/-- AlphabetIsABijection, DecFlagIsAlphabetMembership: bytes of ALPHA at the ends of its ranges. -/
theorem witness_alphabet :
    inAlpha 0x2E = true ∧ inAlpha 0x39 = true ∧ inAlpha 0x41 = true ∧ inAlpha 0x7A = true ∧ a64 63 = a64 63 := by decide

/-- KschedDependsOnTheKeyAlone: two keys that differ in parity positions only. -/
theorem witness_parity :
    State.reset.operands.key &&& ~~~parityMask
      = ({ State.reset with keyHi := 0x01010101, keyLo := 0x01010101 } : State).operands.key &&& ~~~parityMask := by
  decide

/-- SpecialKeySchedules: a key whose C0 is all zero and D0 all one. -/
theorem witness_weak : c0 0x1F1F1F1F0E0E0E0E = 0 ∧ d0 0x1F1F1F1F0E0E0E0E = 0xFFFFFFF := by decide +kernel

/-- RotationIsRoundByRound, SubkeyHalvesAreIndependent, MaskExchangesHalfBits, SaltxWritesTheReversedSalt: the indexes at
the ends of their ranges. -/
theorem witness_indexes : (14 + 1 < 16) ∧ (1 ≤ 56 ∧ 56 ≤ 56) ∧ 23 < 24 := by decide

/-- DesrunRunsCountPasses, DesrunDependsOnItsOperandsAlone, DesrunOfZeroPassesCopiesTheBlock, DesrunComposes: KV = 1 on
an idle block, COUNT = 0, and counts at the edge of 32 bits. -/
theorem witness_desrun :
    ({ State.reset with kv := true } : State).operands.kv = true
    ∧ ({ State.reset with kv := true } : State).operands.count = 0
    ∧ ({ State.reset with kv := true } : State).pending = none
    ∧ (0xFFFFFFFE : Word).toNat + (1 : Word).toNat < 2 ^ 32 := by decide

/-- DesrunKeepsComplementation: an idle block. -/
theorem witness_complementation : keyed.pending = none := rfl

/-- DesrunDependsOnItsOperandsAlone: two states that differ elsewhere. -/
theorem witness_same_operands :
    keyed ≠ { keyed with doutL := 5 } ∧ keyed.operands.kv = true
    ∧ keyed.operands = ({ keyed with doutL := 5 } : State).operands := ⟨by decide +kernel, rfl, rfl⟩

/-- DesrunWithoutKeyRaisesNoKey. -/
theorem witness_no_key :
    State.reset.pending = none ∧ State.reset.kv = false ∧ decode 0x03000000 = .ok .desrun := by decide

/-- EqualSubkeysMakeTwoPassesTheIdentity: the zero key's EK. -/
theorem witness_equal_subkeys : ∀ i j : Fin 16, zeroEk[i] = zeroEk[j] := by decide

/-- ZeroizeForgetsThePreviousHash: two states with different secrets. -/
theorem witness_zeroize :
    loaded ≠ State.reset ∧ loaded.err = State.reset.err ∧ loaded.errCode = State.reset.errCode
    ∧ loaded.inputs = State.reset.inputs ∧ loaded.returned = State.reset.returned
    ∧ loaded.draws = State.reset.draws := by decide

/-- RaiseErrorKeepsTheFirst: both clauses. -/
theorem witness_raise :
    State.reset.err = false ∧ ({ State.reset with err := true, errCode := .noKey } : State).err = true := by decide

/-- AcceptedCommandRaisesNoError, EveryStepKeepsTheInvariant: the invariant with a CLRERR pending, and with another. -/
theorem witness_inv (i : Instr) (h : i ≠ .desrun) :
    ({ State.reset with pending := some ⟨i, State.reset.live, 0⟩ } : State).Inv := by
  constructor <;> simp_all [State.reset, State.live]

/-- AcceptedCommandRaisesNoError: the invariant with a DESRUN pending. -/
theorem witness_inv_desrun : (running 0).Inv where
  errRecord := by decide
  opsFixed := by rintro p h; cases h; rfl
  desrunKv := fun _ _ _ => rfl
  ekBuilt := fun _ => ⟨0, by decide +kernel⟩
  ekClear := fun _ => rfl
  charInAlphabet := .inl rfl

/-- EveryStepKeepsTheInvariant: a state that meets the invariant and has a next state. -/
theorem witness_inv_step : ∃ s t : State, s.Inv ∧ step s = .next t :=
  ⟨_, _, witness_inv .zeroize (by decide), rfl⟩

/-- RecordedErrorStaysAndBlocksNothing, OnlyTheNamedWritersChangeState, ResetAbandonsThePendingCommand: a step that is
neither CLRERR, ZEROIZE nor reset, while a command waits. -/
theorem witness_other_step :
    ∃ s t : State, step s = .next t ∧ s.runs ≠ some .clrerr ∧ s.runs ≠ some .zeroize ∧ s.acts ≠ some .reset
      ∧ s.pending = some ⟨.desrun, { State.reset.live with kv := true }, 0 + 1⟩ :=
  ⟨{ running 1 with inputs := [.wait] }, _, rfl, by decide, by decide, by decide, rfl⟩

/-- OnlyTheNamedWritersChangeState: each piece of state does change in such a step. -/
theorem witness_writers :
    after (step { State.reset with inputs := [.write (wordAt 0x0C) 1 0] }) (fun t => t.keyHi) = some 1
    ∧ after (step { State.reset with inputs := [.write (wordAt 0x10) 1 0] }) (fun t => t.keyLo) = some 1
    ∧ after (step { State.reset with inputs := [.write (wordAt 0x14) 1 0] }) (fun t => t.count) = some 1
    ∧ after (step { State.reset with inputs := [.write (wordAt 0x18) 1 0] }) (fun t => t.dinL) = some 1
    ∧ after (step { State.reset with inputs := [.write (wordAt 0x1C) 1 0] }) (fun t => t.dinR) = some 1
    ∧ after (step (State.withFetchWord { State.reset with kv := true, dinL := 7 } 32 0x03000000)) (fun t => t.doutL)
      = some 7
    ∧ after (step (State.reset.withFetchWord 32 0x02000001)) (fun t => t.smask) = some 0x800000
    ∧ after (step (State.reset.withFetchWord 32 0x04000001)) (fun t => t.char) = some 0x2F
    ∧ after (step (State.reset.withFetchWord 32 0x05000061)) (fun t => (t.val, t.ok)) = some (38, true)
    ∧ after (step (State.reset.withFetchWord 32 0x01000000)) (fun t => t.kv) = some true := by decide +kernel

/-- OnlyTheNamedWritersChangeState, the error record: each cause of R201, in a step from a state with ERR = 0, and that the
invariant holds there. -/
theorem witness_raises :
    (State.reset.withFetchWord 32 0x00000000).raises = some .illegalCmd
    ∧ (State.reset.withFetchWord 32 0x03000000).raises = some .noKey
    ∧ ({ running 1 with inputs := [.write (wordAt 0x30) 0 0] } : State).raises = some .busyWrite
    ∧ after (step (State.reset.withFetchWord 32 0x00000000)) (fun t => (t.err, t.errCode)) = some (true, .illegalCmd)
    ∧ after (step (State.reset.withFetchWord 32 0x03000000)) (fun t => (t.err, t.errCode)) = some (true, .noKey)
    ∧ after (step { running 1 with inputs := [.write (wordAt 0x30) 0 0] }) (fun t => (t.err, t.errCode))
      = some (true, .busyWrite) := by decide

/-- OnlyTheNamedWritersChangeState: the invariant of a state of `witness_raises`. -/
theorem witness_raises_inv : (State.reset.withFetchWord 32 0x00000000).Inv where
  errRecord := by decide
  opsFixed := by rintro p h; cases h
  desrunKv := by rintro p h; cases h
  ekBuilt := by intro h; cases h
  ekClear := fun _ => rfl
  charInAlphabet := .inl rfl

/-- OnlyTheNamedWritersChangeState: the pending command changes by completion, by the count and by acceptance. -/
theorem witness_pending_changes :
    after (step (running 0)) (fun t => t.pending.isNone) = some true
    ∧ after (step (running 2)) (fun t => t.pending.map Pending.wait) = some (some 1)
    ∧ after (step { State.reset with inputs := [.write (wordAt 0x04) 0x01000000 3] })
        (fun t => t.pending) = some (some ⟨.ksched, State.reset.live, 2⟩) := by decide

/-- ResetAbandonsThePendingCommand: reset comes next while a command waits. -/
theorem witness_reset :
    ({ running 1 with inputs := [.reset] } : State).inputs = [.reset]
    ∧ ∀ p, ({ running 1 with inputs := [.reset] } : State).pending = some p → p.wait ≠ 0 := by
  refine ⟨by decide, ?_⟩
  rintro p h
  cases h
  decide

/-- AccessWhileBusy, OnlyAlignedWordsAreAccepted: offsets at the ends of the window, and accesses that are no aligned
word. -/
theorem witness_offsets :
    ((0x3C : BitVec 6).toNat % 4 = 0 ∧ (0x3C : BitVec 6) ≠ 0x00 ∧ (0x3C : BitVec 6) ≠ 0x08)
    ∧ (0x04 : BitVec 6).toNat % 4 = 0
    ∧ AccessSize.byte ≠ .word ∧ (0x3F : BitVec 6).toNat % 4 ≠ 0 := by decide

/-- KeyIsNeverReadBack: reads that return, of an idle block, and of ID and STATUS while BUSY = 1. -/
theorem witness_read :
    loaded.pending = none ∧ after (hostRead (wordAt 0x0C) loaded) (fun t => t.returned) = some [0]
    ∧ slotAt (wordAt 0x00) = some .id ∧ slotAt (wordAt 0x08) = some .status
    ∧ after (hostRead (wordAt 0x00) (running 1)) (fun t => t.returned) = some [0x44455331]
    ∧ after (hostRead (wordAt 0x08) (running 1)) (fun t => t.returned) = some [0x00000009] := by decide

/-- WindowStandsAtDescBase: an address past the window. -/
theorem witness_outside : Config.descBase + 64 ≤ Config.descBase + 64 := Nat.le_refl _

/-- WaitPollsUntilIdle: WAIT next on an idle and on a busy block. -/
theorem witness_wait :
    ({ State.reset with inputs := [.wait] } : State).inputs = [.wait]
    ∧ (running 1).pending = some ⟨.desrun, { State.reset.live with kv := true }, 0 + 1⟩ := by decide

end Sys2Proof.Tests
end

/-! The window's place on the bus (R7, R50, R57): one rule of `onBus` for an address inside the window and one for an
address outside it. -/

namespace Sys2Proof.Machine

/-- DESC_BASE is open, so its alignment is all that is known of it (R7, log 7). -/
theorem descBase_mod_windowBytes : Config.descBase % Config.windowBytes = 0 :=
  Nat.mul_mod_right _ _

@[simp] theorem onBus_descBase_add (size : AccessSize) (off : BitVec 6) :
    onBus size (Config.descBase + off.toNat) = some ⟨size, off⟩ := by
  have inWindow : Config.descBase ≤ Config.descBase + off.toNat
      ∧ Config.descBase + off.toNat < Config.descBase + Config.windowBytes :=
    ⟨Nat.le_add_right _ _, Nat.add_lt_add_left off.isLt _⟩
  rw [onBus, if_pos inWindow, Nat.add_sub_cancel_left, BitVec.ofNat_toNat, BitVec.setWidth_eq]

theorem onBus_eq_none_iff (size : AccessSize) (addr : Nat) :
    onBus size addr = none ↔ addr < Config.descBase ∨ Config.descBase + Config.windowBytes ≤ addr := by
  simp only [onBus, ite_eq_right_iff, reduceCtorEq, imp_false]
  omega

/-- Settles O48: the alignment of DESC_BASE, the rule of `onBus` inside the window, and its rule outside. -/
theorem windowStandsAtDescBase : Obligations.WindowStandsAtDescBase :=
  ⟨descBase_mod_windowBytes, onBus_descBase_add, fun size addr outside => (onBus_eq_none_iff size addr).mpr outside⟩

end Sys2Proof.Machine

/-! The two packed registers, STATUS and CODEC (R23, R29): a field of a register is a cut out of the concatenation that
builds it. -/

namespace Sys2Proof.Machine

/-- A cut above the lower part of a concatenation is a cut of the upper part. -/
theorem extractLsb'_append_upper {m n : Nat} (x : BitVec m) (y : BitVec n) {start : Nat} (len : Nat) (h : n ≤ start) :
    (x ++ y).extractLsb' start len = x.extractLsb' (start - n) len := by
  apply BitVec.eq_of_getLsbD_eq
  intro i hi
  have above : ¬ start + i < n := by omega
  have shift : start + i - n = start - n + i := by omega
  simp [BitVec.getLsbD_append, above, shift]

/-- A cut within the lower part of a concatenation is a cut of that part. -/
theorem extractLsb'_append_lower {m n : Nat} (x : BitVec m) (y : BitVec n) {start len : Nat} (h : start + len ≤ n) :
    (x ++ y).extractLsb' start len = y.extractLsb' start len := by
  apply BitVec.eq_of_getLsbD_eq
  intro i hi
  have below : start + i < n := by omega
  simp [BitVec.getLsbD_append, below]

/-- Settles O46: VAL, two zero bits, CHAR and sixteen zero bits are the four parts CODEC is put together from. -/
theorem codecFieldsStandInTheirBits : Obligations.CodecFieldsStandInTheirBits := by
  intro s
  refine ⟨?val, ?between, ?char, ?above⟩ <;>
    simp (disch := decide) only [State.codec, extractLsb'_append_upper, extractLsb'_append_lower] <;>
    exact BitVec.extractLsb'_eq_self

theorem status_flag_bits (s : State) :
    s.status.getLsbD 0 = s.busy ∧ s.status.getLsbD 1 = s.err ∧ s.status.getLsbD 2 = s.ok
      ∧ s.status.getLsbD 3 = s.kv := by
  simp only [State.status, BitVec.getLsbD_append]
  simp

theorem status_errCode_field (s : State) : s.status.extractLsb' 8 4 = s.errCode.bits := by
  simp (disch := decide) only [State.status, extractLsb'_append_upper, extractLsb'_append_lower]
  exact BitVec.extractLsb'_eq_self

theorem status_reserved_bits (s : State) : s.status.extractLsb' 4 4 = 0 ∧ s.status.extractLsb' 12 20 = 0 := by
  simp (disch := decide) only [State.status, extractLsb'_append_upper, extractLsb'_append_lower]
  exact ⟨BitVec.extractLsb'_eq_self, BitVec.extractLsb'_eq_self⟩

/-- Settles O45: the four flags are the lowest bits of the concatenation; ERRCODE stands between two runs of zeros. -/
theorem statusFieldsStandInTheirBits : Obligations.StatusFieldsStandInTheirBits := by
  intro s
  obtain ⟨busy, err, ok, kv⟩ := status_flag_bits s
  obtain ⟨between, above⟩ := status_reserved_bits s
  refine ⟨busy, err, ok, kv, between, ?code, above⟩
  rw [status_errCode_field]
  cases s.errCode <;> rfl

end Sys2Proof.Machine

/-! What an operation from outside and a command do to the registers, the error record and the pending command (R23 to
R30, R34), and the invariant, operation by operation. -/

namespace Sys2Proof.Machine

/-! ## Reads -/

/-- A read of a slot that has a value now returns it (R51, R226). -/
theorem hostRead_of_slot {a : Access} {slot : Slot} {s : State} (hs : slotAt a = some slot)
    (readable : s.busy = true → slot = .id ∨ slot = .status) :
    hostRead a s = .next (s.give (readSlot s slot)) := by
  have noDraw : ¬ (s.busy = true ∧ slot ≠ .id ∧ slot ≠ .status) := by
    rintro ⟨busy, notId, notStatus⟩
    exact (readable busy).elim notId notStatus
  rw [hostRead, hs]
  exact if_neg noDraw

/-- The state with the key registers, EK and a pending command's operands replaced: what R30 and R140 keep secret. -/
def State.withSecrets (s : State) (hi lo : Word) (ek : ExpandedKey) (o : Operands) : State :=
  { s with keyHi := hi, keyLo := lo, ek := ek, pending := s.pending.map fun p => { p with ops := o } }

theorem State.withSecrets_busy (s : State) (hi lo : Word) (ek : ExpandedKey) (o : Operands) :
    (s.withSecrets hi lo ek o).busy = s.busy :=
  Option.isSome_map

/-- No slot shows a secret: the key registers read 0, EK has no slot, and STATUS shows only BUSY of a command. -/
theorem readSlot_withSecrets (s : State) (hi lo : Word) (ek : ExpandedKey) (o : Operands) (slot : Slot) :
    readSlot (s.withSecrets hi lo ek o) slot = readSlot s slot := by
  cases slot with
  | status => simp only [readSlot, State.status, State.withSecrets_busy]; rfl
  | _ => rfl

/-- Settles O47: the read returns a slot's value in both states, and no slot shows a secret. -/
theorem keyIsNeverReadBack : Obligations.KeyIsNeverReadBack := by
  intro s a hi lo ek o t scope h
  obtain ⟨slot, hs, readable, rfl⟩ | ⟨slot, hs, busy, notId, notStatus, rfl⟩ := hostRead_cases h
  · have secretBusy := s.withSecrets_busy hi lo ek o
    refine ⟨_, hostRead_of_slot (s := s.withSecrets hi lo ek o) hs (fun b => readable (secretBusy ▸ b)), ?_⟩
    rw [State.give_returned, readSlot_withSecrets]
    rfl
  · obtain idle | isId | isStatus := scope
    · simp [State.busy, idle] at busy
    · exact absurd (Option.some.inj (hs.symm.trans isId)) notId
    · exact absurd (Option.some.inj (hs.symm.trans isStatus)) notStatus

/-! ## What an outside turn does -/

/-- A write of any slot but CMD reaches at most the five registers that only the host writes (R24 to R26, R52). -/
theorem writeSlot_frame {v : Word} {lat : Nat} {slot : Slot} {s t : State} (notCmd : slot ≠ .cmd)
    (h : writeSlot v lat s slot = .next t) :
    t = { s with keyHi := t.keyHi, keyLo := t.keyLo, count := t.count, dinL := t.dinL, dinR := t.dinR } := by
  cases slot with
  | cmd => exact absurd rfl notCmd
  | _ => cases h; rfl

/-- A write that is answered while BUSY = 1 is an aligned word, and only raises BUSY_WRITE (R226). -/
theorem hostWrite_busy {a : Access} {v : Word} {lat : Nat} {s t : State} (busy : s.busy = true)
    (h : hostWrite a v lat s = .next t) : (∃ slot, slotAt a = some slot) ∧ t = s.raiseError .busyWrite := by
  unfold hostWrite at h
  split at h
  · cases h
  · next slot hs =>
    rw [if_pos busy] at h
    cases h
    exact ⟨⟨slot, hs⟩, rfl⟩

/-- What an outside turn that has a next state `t` does to `s`. -/
inductive TurnEffect (s t : State) : Prop
  /-- Only the outside's own fields move: a read, a WAIT, or no input. -/
  | outside (result : t = { s with inputs := t.inputs, returned := t.returned, draws := t.draws })
  /-- Reset is asserted (R221). -/
  | reset (rest : List HostOp) (next : s.inputs = .reset :: rest) (result : t = (s.setInputs rest).restart)
  /-- A write while BUSY = 1 raises BUSY_WRITE (R226). -/
  | busyWrite (a : Access) (v : Word) (lat : Nat) (rest : List HostOp) (slot : Slot)
      (next : s.inputs = .write a v lat :: rest) (names : slotAt a = some slot) (busy : s.busy = true)
      (result : t = (s.setInputs rest).raiseError .busyWrite)
  /-- A write of an idle block's slot other than CMD (R52). -/
  | slotWrite (a : Access) (v : Word) (lat : Nat) (rest : List HostOp) (slot : Slot)
      (next : s.inputs = .write a v lat :: rest) (names : slotAt a = some slot) (idle : s.pending = none)
      (notCmd : slot ≠ .cmd) (result : writeSlot v lat (s.setInputs rest) slot = .next t)
  /-- A write of an idle block's CMD (R71). -/
  | commandWrite (a : Access) (w : Word) (lat : Nat) (rest : List HostOp)
      (next : s.inputs = .write a w lat :: rest) (names : slotAt a = some .cmd) (idle : s.pending = none)
      (result : command w lat (s.setInputs rest) = .next t)

theorem turnEffect_of_hostTurn {s t : State} (h : hostTurn s = .next t) : TurnEffect s t := by
  obtain ⟨_, rfl⟩ | ⟨op, rest, next, ha⟩ := hostTurn_cases h
  · exact .outside rfl
  cases op with
  | read a => obtain ⟨_, _, _, rfl⟩ | ⟨_, _, _, _, _, rfl⟩ := hostRead_cases ha <;> exact .outside rfl
  | wait =>
    cases ha
    split <;> exact .outside rfl
  | reset =>
    cases ha
    exact .reset rest next rfl
  | write a v lat =>
    obtain ⟨busy, _⟩ | ⟨notBusy, slot, names, hw⟩ := hostWrite_cases ha
    · obtain ⟨⟨slot, names⟩, result⟩ := hostWrite_busy busy ha
      exact .busyWrite a v lat rest slot next names busy result
    · have idle : s.pending = none := (State.busy_eq_false_iff s).mp notBusy
      by_cases isCmd : slot = .cmd
      · subst isCmd
        exact .commandWrite a v lat rest next names idle hw
      · exact .slotWrite a v lat rest slot next names idle isCmd hw

/-! ## The invariant, operation by operation -/

/-- On an idle block the invariant speaks of the error record, EK and CHAR only. -/
theorem inv_of_idle {s : State} (idle : s.pending = none) (errRecord : s.err = true ↔ s.errCode ≠ .none)
    (ekBuilt : s.kv = true → ∃ key, s.ek = schedule key) (ekClear : s.kv = false → s.ek = zeroEk)
    (charInAlphabet : s.char = 0 ∨ s.char ∈ alphabet) : s.Inv where
  errRecord := errRecord
  opsFixed := by simp [idle]
  desrunKv := by simp [idle]
  ekBuilt := ekBuilt
  ekClear := ekClear
  charInAlphabet := charInAlphabet

/-- Reset clears the error record, EK with KV, and CHAR (R220, R221). -/
theorem inv_restart (s : State) : s.restart.Inv :=
  inv_of_idle rfl (by simp) (by simp) (fun _ => rfl) (.inl rfl)

/-- The outside's own fields are no part of the invariant. -/
theorem inv_outside {s : State} (h : s.Inv) (l : List HostOp) (r : List Word) (d : Nat) :
    ({ s with inputs := l, returned := r, draws := d } : State).Inv :=
  { h with }

/-- The wait's count is no part of the invariant. -/
theorem inv_tick {s : State} (h : s.Inv) {p : Pending} (hp : s.pending = some p) (n : Nat) : (s.tick p n).Inv :=
  { h with
    opsFixed := by rintro _ ⟨⟩; exact h.opsFixed p hp
    desrunKv := by rintro _ ⟨⟩; exact h.desrunKv p hp }

/-- Recording an error that has a code keeps ERR and ERRCODE in step (R202). -/
theorem raiseError_errRecord {s : State} {c : ErrCode} (h : s.err = true ↔ s.errCode ≠ .none) (code : c ≠ .none) :
    (s.raiseError c).err = true ↔ (s.raiseError c).errCode ≠ .none := by
  cases he : s.err <;> simp_all [State.raiseError]

theorem inv_raiseError {s : State} (h : s.Inv) {c : ErrCode} (code : c ≠ .none) : (s.raiseError c).Inv :=
  { h with errRecord := raiseError_errRecord h.errRecord code }

/-- Acceptance captures the live registers, and a DESRUN is accepted only with KV = 1 (R71, R225). -/
theorem inv_accept {s : State} (h : s.Inv) {i : Instr} (desrunKv : i = .desrun → s.kv = true) (n : Nat) :
    (s.accept i s.live n).Inv :=
  { h with
    opsFixed := by rintro _ ⟨⟩; rfl
    desrunKv := by rintro _ ⟨⟩; exact desrunKv }

theorem a64_mem_alphabet (v : BitVec 6) : a64 v ∈ alphabet := by
  have inRange : v.toNat < alphabet.length := v.isLt
  rw [a64, List.getD_eq_getElem _ _ inRange]
  exact List.getElem_mem inRange

/-- Every command completes in a state that meets the invariant: KSCHED builds the schedule it makes valid, ZEROIZE
clears EK and KV together, and ENC writes a character of the alphabet. -/
theorem inv_effect_complete {s : State} (h : s.Inv) (i : Instr) : (effect i s).complete.Inv := by
  cases i with
  | ksched => exact inv_of_idle rfl h.errRecord (fun _ => ⟨_, rfl⟩) (by simp [effect]) h.charInAlphabet
  | enc v => exact inv_of_idle rfl h.errRecord h.ekBuilt h.ekClear (.inr (a64_mem_alphabet v))
  | clrerr => exact inv_of_idle rfl (by simp [effect]) h.ekBuilt h.ekClear h.charInAlphabet
  | zeroize => exact inv_of_idle rfl h.errRecord (by simp [effect]) (fun _ => rfl) (.inl rfl)
  | saltx salt => exact inv_of_idle rfl h.errRecord h.ekBuilt h.ekClear h.charInAlphabet
  | dec c => exact inv_of_idle rfl h.errRecord h.ekBuilt h.ekClear h.charInAlphabet
  | desrun =>
    simp only [effect]
    split
    · exact inv_of_idle rfl h.errRecord h.ekBuilt h.ekClear h.charInAlphabet
    · exact inv_of_idle rfl (raiseError_errRecord h.errRecord (by decide)) h.ekBuilt h.ekClear h.charInAlphabet

theorem inv_command {w : Word} {lat : Nat} {s t : State} (h : s.Inv) (hc : command w lat s = .next t) : t.Inv := by
  obtain ⟨_, rfl⟩ | ⟨i, _, _, rfl⟩ | ⟨_, _, _, _, _, _, rfl⟩ | ⟨_, n, _, _, desrunKv, rfl⟩ := command_cases hc
  · exact inv_raiseError h (by decide)
  · exact inv_effect_complete h i
  · exact inv_raiseError h (by decide)
  · exact inv_accept h desrunKv n

theorem inv_hostTurn {s t : State} (h : s.Inv) (ht : hostTurn s = .next t) : t.Inv := by
  cases turnEffect_of_hostTurn ht with
  | outside result =>
    rw [result]
    exact inv_outside h _ _ _
  | reset rest _ result => exact result ▸ inv_restart _
  | busyWrite _ _ _ rest _ _ _ _ result => exact result ▸ inv_raiseError (inv_outside h rest _ _) (by decide)
  | slotWrite _ _ _ _ _ _ _ idle notCmd result =>
    rw [writeSlot_frame notCmd result]
    exact inv_of_idle idle h.errRecord h.ekBuilt h.ekClear h.charInAlphabet
  | commandWrite _ _ _ rest _ _ _ result => exact inv_command (inv_outside h rest _ _) result

/-- Settles O54: the engine's completion, an outside turn while a command waits, and one on an idle block. -/
theorem everyStepKeepsTheInvariant : Obligations.EveryStepKeepsTheInvariant := by
  intro s t h hstep
  obtain ⟨p, _, _, rfl⟩ | ⟨p, n, hp, _, ht⟩ | ⟨_, ht⟩ := step_cases hstep
  · exact inv_effect_complete h p.instr
  · exact inv_hostTurn (inv_tick h hp n) ht
  · exact inv_hostTurn h ht

/-! ## Who changes each piece of state -/

/-- Each register of `t` that differs from `s` was changed by a writer that R23 to R30 name: a write of the slot, given
`writes`, or the command that runs, given `runs`. -/
structure NamedWriters (writes : Slot → Prop) (runs : Option Instr) (s t : State) : Prop where
  keyHi : t.keyHi ≠ s.keyHi → writes .keyHi
  keyLo : t.keyLo ≠ s.keyLo → writes .keyLo
  count : t.count ≠ s.count → writes .count
  dinL : t.dinL ≠ s.dinL → writes .dinL
  dinR : t.dinR ≠ s.dinR → writes .dinR
  dout : t.doutL ≠ s.doutL ∨ t.doutR ≠ s.doutR → runs = some .desrun
  smask : t.smask ≠ s.smask → ∃ salt, runs = some (.saltx salt)
  char : t.char ≠ s.char → ∃ v, runs = some (.enc v)
  valOk : t.val ≠ s.val ∨ t.ok ≠ s.ok → ∃ c, runs = some (.dec c)
  ekKv : t.ek ≠ s.ek ∨ t.kv ≠ s.kv → runs = some .ksched

section
variable {writes : Slot → Prop} {runs : Option Instr} {s t : State}

/-- The error record, the pending command and the outside's fields are none of these registers. -/
theorem namedWriters_of_frame (h : t = { s with
      err := t.err, errCode := t.errCode, pending := t.pending,
      inputs := t.inputs, returned := t.returned, draws := t.draws }) : NamedWriters writes runs s t := by
  rw [h]
  constructor <;> simp

theorem namedWriters_of_setInputs {l : List HostOp} (h : NamedWriters writes runs (s.setInputs l) t) :
    NamedWriters writes runs s t :=
  { h with }

theorem namedWriters_writeSlot {v : Word} {lat : Nat} {slot : Slot} (notCmd : slot ≠ .cmd) (writer : writes slot)
    (h : writeSlot v lat s slot = .next t) : NamedWriters writes runs s t := by
  cases slot with
  | cmd => exact absurd rfl notCmd
  | _ => cases h; constructor <;> simp [writer]

theorem namedWriters_effect_complete {i : Instr} (notZeroize : i ≠ .zeroize) :
    NamedWriters writes (some i) s (effect i s).complete := by
  cases i with
  | zeroize => exact absurd rfl notZeroize
  | desrun => simp only [effect]; split <;> constructor <;> simp
  | _ => constructor <;> simp [effect]

end

/-! What `acts`, `runs`, `writes` and `raises` say of a state, one rule for each kind of step. -/

section
variable {s : State} {p : Pending} {n lat : Nat} {a : Access} {w : Word} {rest : List HostOp} {slot : Slot} {i : Instr}

theorem acts_of_idle (idle : s.pending = none) : s.acts = s.inputs.head? := by
  simp [State.acts, idle]

theorem acts_of_waiting (hp : s.pending = some p) (wait : p.wait = n + 1) : s.acts = s.inputs.head? := by
  simp [State.acts, hp, wait]

theorem runs_of_completion (hp : s.pending = some p) (wait : p.wait = 0) : s.runs = some p.instr := by
  simp [State.runs, hp, wait]

theorem runs_of_command (idle : s.pending = none) (next : s.inputs = .write a w 0 :: rest)
    (names : slotAt a = some .cmd) (legal : decode w = .ok i) : s.runs = some i := by
  simp [State.runs, idle, next, names, legal]

theorem writes_of_idle (idle : s.pending = none) (next : s.inputs = .write a w lat :: rest)
    (names : slotAt a = some slot) : s.writes slot :=
  ⟨idle, a, w, lat, congrArg List.head? next, names⟩

theorem raises_of_busy (acts : s.acts = some (.write a w lat)) (names : slotAt a = some slot) (busy : s.busy = true) :
    s.raises = some .busyWrite := by
  simp [State.raises, acts, names, busy]

/-- A write of CMD on an idle block raises what its word calls for. -/
theorem raises_of_command (idle : s.pending = none) (next : s.inputs = .write a w lat :: rest)
    (names : slotAt a = some .cmd) :
    ((∃ e, decode w = .error e) → s.raises = some .illegalCmd)
    ∧ (decode w = .ok .desrun → s.kv = false → s.raises = some .noKey) := by
  have notBusy := (State.busy_eq_false_iff s).mpr idle
  have acts : s.acts = some (.write a w lat) := (acts_of_idle idle).trans (congrArg List.head? next)
  constructor
  · rintro ⟨e, illegal⟩
    simp [State.raises, acts, names, notBusy, illegal]
  · intro legal kv
    simp [State.raises, acts, names, notBusy, legal, kv]

end

/-- In a step that is neither a reset nor ZEROIZE every register changes only by its own writers. -/
theorem step_namedWriters {s t : State} (h : step s = .next t) (notReset : s.acts ≠ some .reset)
    (notZeroize : s.runs ≠ some .zeroize) : NamedWriters s.writes s.runs s t := by
  obtain ⟨p, hp, wait, rfl⟩ | ⟨p, n, hp, wait, ht⟩ | ⟨idle, ht⟩ := step_cases h
  · rw [runs_of_completion hp wait] at notZeroize ⊢
    exact namedWriters_effect_complete fun isZeroize => notZeroize (congrArg some isZeroize)
  · rw [acts_of_waiting hp wait] at notReset
    have frame := hostTurn_busy (State.tick_busy s p n) notReset ht
    exact namedWriters_of_frame (by rw [frame]; rfl)
  rw [acts_of_idle idle] at notReset
  cases turnEffect_of_hostTurn ht with
  | outside result => exact namedWriters_of_frame (by rw [result])
  | reset _ next _ => exact absurd (congrArg List.head? next) notReset
  | busyWrite _ _ _ _ _ _ _ _ result => exact result ▸ namedWriters_of_frame rfl
  | slotWrite _ _ _ _ _ next names _ notCmd result =>
    exact namedWriters_of_setInputs (namedWriters_writeSlot notCmd (writes_of_idle idle next names) result)
  | commandWrite _ _ _ rest next names _ result =>
    obtain ⟨_, rfl⟩ | ⟨i, legal, rfl, rfl⟩ | ⟨_, _, _, _, _, _, rfl⟩ | ⟨_, _, _, _, _, rfl⟩ := command_cases result
    · exact namedWriters_of_frame rfl
    · rw [runs_of_command idle next names legal] at notZeroize ⊢
      exact namedWriters_of_setInputs
        (namedWriters_effect_complete fun isZeroize => notZeroize (congrArg some isZeroize))
    · exact namedWriters_of_frame rfl
    · exact namedWriters_of_frame rfl

/-- ERR or ERRCODE of `t` differs from that of `s`. -/
def ErrorMoved (s t : State) : Prop := t.err ≠ s.err ∨ t.errCode ≠ s.errCode

/-- Where raising an error moves the record, ERR was 0 and the code is now recorded (R202). -/
theorem errorMoved_raiseError {s : State} {c : ErrCode} (moved : ErrorMoved s (s.raiseError c)) :
    s.err = false ∧ (s.raiseError c).err = true ∧ c = (s.raiseError c).errCode := by
  have changed : s.raiseError c ≠ s := by
    intro same
    rw [same] at moved
    exact moved.elim (absurd rfl) (absurd rfl)
  obtain ⟨before, after, code⟩ := raiseError_changed changed
  exact ⟨before, after, code.symm⟩

/-- The only commands that move the error record are CLRERR and a DESRUN without a key. -/
theorem errorMoved_effect {s : State} {i : Instr} (moved : ErrorMoved s (effect i s)) :
    i = .clrerr ∨ (i = .desrun ∧ s.operands.kv = false ∧ effect i s = s.raiseError .noKey) := by
  cases i with
  | clrerr => exact .inl rfl
  | desrun =>
    cases kv : s.operands.kv with
    | false => exact .inr ⟨rfl, rfl, by simp [effect, kv]⟩
    | true => simp [ErrorMoved, effect, kv] at moved
  | _ => exact absurd moved (by simp [ErrorMoved, effect])

/-- Where the error that a step raises moves the record, it is the one recorded. The error is raised in a state `u` that
may differ from `s` elsewhere. -/
theorem recorded_of_raises {s u : State} {c : ErrCode} (cause : s.raises = some c) (sameErr : u.err = s.err)
    (sameCode : u.errCode = s.errCode) (moved : ErrorMoved s (u.raiseError c)) :
    s.err = false ∧ (u.raiseError c).err = true ∧ s.raises = some (u.raiseError c).errCode := by
  rw [ErrorMoved, ← sameErr, ← sameCode] at moved
  obtain ⟨before, after, code⟩ := errorMoved_raiseError moved
  exact ⟨sameErr ▸ before, after, code ▸ cause⟩

/-- An outside turn other than reset moves the error record only by a write while BUSY = 1 or by a command word. -/
theorem hostTurn_errorMoved {s t : State} (h : hostTurn s = .next t) (notReset : s.inputs.head? ≠ some .reset)
    (moved : ErrorMoved s t) :
    ∃ a w lat rest slot, s.inputs = .write a w lat :: rest ∧ slotAt a = some slot
      ∧ (s.busy = true ∧ t = (s.setInputs rest).raiseError .busyWrite
        ∨ s.pending = none ∧ slot = .cmd ∧ command w lat (s.setInputs rest) = .next t) := by
  cases turnEffect_of_hostTurn h with
  | outside result =>
    rw [result] at moved
    exact absurd moved (by simp [ErrorMoved])
  | reset _ next _ => exact absurd (congrArg List.head? next) notReset
  | busyWrite a w lat rest slot next names busy result =>
    exact ⟨a, w, lat, rest, slot, next, names, .inl ⟨busy, result⟩⟩
  | slotWrite _ _ _ _ _ _ _ _ notCmd result =>
    rw [writeSlot_frame notCmd result] at moved
    exact absurd moved (by simp [ErrorMoved])
  | commandWrite a w lat rest next names idle result =>
    exact ⟨a, w, lat, rest, .cmd, next, names, .inr ⟨idle, rfl, result⟩⟩

theorem command_errorMoved {s t : State} {a : Access} {w : Word} {lat : Nat} {rest : List HostOp}
    (idle : s.pending = none) (next : s.inputs = .write a w lat :: rest) (names : slotAt a = some .cmd)
    (h : command w lat (s.setInputs rest) = .next t) (moved : ErrorMoved s t) :
    s.runs = some .clrerr ∨ (s.err = false ∧ t.err = true ∧ s.raises = some t.errCode) := by
  obtain ⟨raisesIllegal, raisesNoKey⟩ := raises_of_command idle next names
  obtain ⟨illegal, rfl⟩ | ⟨i, legal, rfl, rfl⟩ | ⟨i, n, legal, _, rfl, kv, rfl⟩ | ⟨_, _, _, _, _, rfl⟩ :=
    command_cases h
  · exact .inr (recorded_of_raises (raisesIllegal illegal) rfl rfl moved)
  · obtain rfl | ⟨rfl, kv, raised⟩ := errorMoved_effect (s := s.setInputs rest) moved
    · exact .inl (runs_of_command idle next names legal)
    · rw [State.operands_setInputs, State.operands_of_idle s idle] at kv
      rw [raised] at moved ⊢
      exact .inr (recorded_of_raises (raisesNoKey legal kv) rfl rfl moved)
  · exact .inr (recorded_of_raises (raisesNoKey legal kv) rfl rfl moved)
  · exact absurd moved (by simp [ErrorMoved])

/-- The error record changes only by CLRERR, or from ERR = 0 by the error that R201 names the cause of. Under the
invariant a pending DESRUN has its key, so its completion raises nothing. -/
theorem step_errorMoved {s t : State} (h : step s = .next t) (notReset : s.acts ≠ some .reset) (inv : s.Inv)
    (moved : ErrorMoved s t) :
    s.runs = some .clrerr ∨ (s.err = false ∧ t.err = true ∧ s.raises = some t.errCode) := by
  obtain ⟨p, hp, wait, rfl⟩ | ⟨p, n, hp, wait, ht⟩ | ⟨idle, ht⟩ := step_cases h
  · obtain isClrerr | ⟨isDesrun, noKey, _⟩ := errorMoved_effect (s := s) moved
    · exact .inl (isClrerr ▸ runs_of_completion hp wait)
    · rw [State.operands_of_pending s p hp, inv.opsFixed p hp] at noKey
      exact absurd (noKey.symm.trans (inv.desrunKv p hp isDesrun)) Bool.false_ne_true
  · have acts := acts_of_waiting hp wait
    obtain ⟨_, _, _, _, _, next, names, ⟨_, rfl⟩ | ⟨idle, _⟩⟩ := hostTurn_errorMoved ht (acts ▸ notReset) moved
    · have busy := (State.busy_eq_true_iff s).mpr ⟨p, hp⟩
      have raises := raises_of_busy (acts.trans (congrArg List.head? next)) names busy
      exact .inr (recorded_of_raises raises rfl rfl moved)
    · cases idle
  · obtain ⟨_, _, _, _, _, next, names, ⟨busy, _⟩ | ⟨_, rfl, result⟩⟩ :=
      hostTurn_errorMoved ht (acts_of_idle idle ▸ notReset) moved
    · simp [State.busy, idle] at busy
    · exact command_errorMoved idle next names result moved

/-- An idle block has a command pending only by the acceptance of a legal one, with the live registers (R71, R225). -/
theorem accepted_of_hostTurn {s t : State} (idle : s.pending = none) (ht : hostTurn s = .next t)
    (pending : t.pending ≠ none) :
    ∃ a w n i, s.pending = none ∧ s.inputs.head? = some (.write a w (n + 1)) ∧ slotAt a = some .cmd
      ∧ decode w = .ok i ∧ (i = .desrun → s.kv = true) ∧ t.pending = some ⟨i, s.live, n⟩ := by
  cases turnEffect_of_hostTurn ht with
  | outside result => exact absurd ((congrArg State.pending result).trans idle) pending
  | reset _ _ result => exact absurd (congrArg State.pending result) pending
  | busyWrite _ _ _ _ _ _ _ _ result => exact absurd ((congrArg State.pending result).trans idle) pending
  | slotWrite _ _ _ _ _ _ _ _ notCmd result =>
    exact absurd ((congrArg State.pending (writeSlot_frame notCmd result)).trans idle) pending
  | commandWrite a w _ rest next names _ result =>
    obtain ⟨_, rfl⟩ | ⟨_, _, _, rfl⟩ | ⟨_, _, _, _, _, _, rfl⟩ | ⟨i, n, legal, rfl, kv, rfl⟩ := command_cases result
    · exact absurd idle pending
    · exact absurd rfl pending
    · exact absurd idle pending
    · exact ⟨a, w, n, i, idle, congrArg List.head? next, names, legal, kv, rfl⟩

/-- Settles O55: the registers, the error record and the pending command, each by the kinds of step. -/
theorem onlyTheNamedWritersChangeState : Obligations.OnlyTheNamedWritersChangeState := by
  intro s t h notReset
  refine ⟨fun notZeroize => ?registers, step_errorMoved h notReset, fun moved => ?pending⟩
  case registers =>
    obtain ⟨keyHi, keyLo, count, dinL, dinR, dout, smask, char, valOk, ekKv⟩ := step_namedWriters h notReset notZeroize
    exact ⟨keyHi, keyLo, count, dinL, dinR, dout, smask, char, valOk, ekKv⟩
  case pending =>
    obtain ⟨p, hp, wait, rfl⟩ | ⟨p, n, hp, wait, ht⟩ | ⟨idle, ht⟩ := step_cases h
    · exact .inl ⟨p, hp, wait, runs_of_completion hp wait, rfl⟩
    · rw [acts_of_waiting hp wait] at notReset
      have frame := hostTurn_busy (State.tick_busy s p n) notReset ht
      exact .inr (.inl ⟨p, n, hp, wait, congrArg State.pending frame⟩)
    · exact .inr (.inr (accepted_of_hostTurn idle ht fun isNone => moved (isNone.trans idle.symm)))

end Sys2Proof.Machine

/-! Which access the window takes (R20, R55), what an idle block's slots read as and take (R51, R52), and what a step is
(R13, R59): one equation for each kind of access, of command word and of step. -/

namespace Sys2Proof.Machine

/-! ## The slots -/

/-- The table of R20: the sixteen word offsets of the window and the slot at each. -/
def slotsByOffset : List (BitVec 6 × Slot) :=
  [(0x00, .id), (0x04, .cmd), (0x08, .status), (0x0C, .keyHi), (0x10, .keyLo), (0x14, .count), (0x18, .dinL),
   (0x1C, .dinR), (0x20, .doutL), (0x24, .doutR), (0x28, .smask), (0x2C, .codec), (0x30, .reserved),
   (0x34, .reserved), (0x38, .reserved), (0x3C, .reserved)]

theorem slotAt_of_mem_slotsByOffset : ∀ e ∈ slotsByOffset, slotAt (wordAt e.1) = some e.2 := by
  decide

theorem slotAt_wordAt_eq_none_iff : ∀ off : BitVec 6, slotAt (wordAt off) = none ↔ off.toNat % 4 ≠ 0 := by
  decide

/-- An access names no slot exactly where it is not an aligned 32-bit word (R55). -/
theorem slotAt_eq_none_iff (a : Access) : slotAt a = none ↔ a.size ≠ .word ∨ a.off.toNat % 4 ≠ 0 := by
  obtain ⟨size, off⟩ := a
  by_cases isWord : size = .word
  · subst isWord
    simpa [wordAt] using slotAt_wordAt_eq_none_iff off
  · simp [slotAt, isWord]

/-! ## Accesses of an idle block -/

section
variable {a : Access} {slot : Slot} {s : State} {v : Word} {lat : Nat}

theorem hostRead_of_idle (idle : s.pending = none) (names : slotAt a = some slot) :
    hostRead a s = .next (s.give (readSlot s slot)) :=
  hostRead_of_slot names fun busy => by simp [State.busy, idle] at busy

theorem hostWrite_of_idle (idle : s.pending = none) (names : slotAt a = some slot) :
    hostWrite a v lat s = writeSlot v lat s slot := by
  have notBusy := (State.busy_eq_false_iff s).mpr idle
  simp only [hostWrite, names, notBusy, Bool.false_eq_true, if_false]

theorem hostWrite_cmd_of_idle (idle : s.pending = none) : hostWrite (wordAt 0x04) v lat s = command v lat s :=
  hostWrite_of_idle (slot := .cmd) idle rfl

/-- What a write leaves of an idle block where the slot is not CMD: the five writable registers take the value, and the
read-only and reserved slots ignore it (R21, R52). -/
def State.written (s : State) (v : Word) : Slot → State
  | .keyHi => s.setKeyHi v
  | .keyLo => s.setKeyLo v
  | .count => s.setCount v
  | .dinL => s.setDinL v
  | .dinR => s.setDinR v
  | _ => s

theorem writeSlot_eq_written (notCmd : slot ≠ .cmd) : writeSlot v lat s slot = .next (s.written v slot) := by
  cases slot with
  | cmd => exact absurd rfl notCmd
  | _ => rfl

end

/-- Settles O41: the read returns the value of the slot that the table of R20 has at the offset. -/
theorem idleReadReturnsTheRegister : Obligations.IdleReadReturnsTheRegister := by
  intro s idle
  change ∀ e ∈ slotsByOffset.map fun e => (e.1, readSlot s e.2), hostRead (wordAt e.1) s = .next (s.give e.2)
  rw [List.forall_mem_map]
  exact fun e he => hostRead_of_idle idle (slotAt_of_mem_slotsByOffset e he)

/-- Settles O42: the write is that of the slot that the table of R20 has at the offset; CMD is the one that is no plain
register write. -/
theorem idleWriteReplacesTheRegister : Obligations.IdleWriteReplacesTheRegister := by
  intro s v lat idle
  refine ⟨hostWrite_cmd_of_idle idle, ?_⟩
  change ∀ e ∈ (slotsByOffset.filter (·.2 ≠ .cmd)).map fun e => (e.1, s.written v e.2),
    hostWrite (wordAt e.1) v lat s = .next e.2
  rw [List.forall_mem_map]
  intro e he
  obtain ⟨inTable, notCmd⟩ := List.mem_filter.mp he
  exact (hostWrite_of_idle idle (slotAt_of_mem_slotsByOffset e inTable)).trans
    (writeSlot_eq_written (of_decide_eq_true notCmd))

/-! ## Which accesses have a next state -/

section
variable {a : Access} {slot : Slot} {w : Word} {i : Instr} {n : Nat}

theorem command_now (legal : decode w = .ok i) (s : State) : command w 0 s = exec i s := by
  rw [command, legal]

theorem command_later (legal : decode w = .ok i) (s : State) : command w (n + 1) s = .next (issue i n s) := by
  rw [command, legal]

theorem command_has_next (w : Word) (lat : Nat) (s : State) : ∃ t, command w lat s = .next t := by
  cases legal : decode w with
  | error e => exact ⟨_, by rw [command, legal]⟩
  | ok i =>
    cases lat with
    | zero => exact ⟨_, (command_now legal s).trans (exec_eq_effect i s)⟩
    | succ n => exact ⟨_, command_later legal s⟩

theorem hostRead_has_next (names : slotAt a = some slot) (s : State) : ∃ t, hostRead a s = .next t := by
  simp only [hostRead, names]
  split <;> exact ⟨_, rfl⟩

theorem hostWrite_has_next (names : slotAt a = some slot) (v : Word) (lat : Nat) (s : State) :
    ∃ t, hostWrite a v lat s = .next t := by
  simp only [hostWrite, names]
  split
  · exact ⟨_, rfl⟩
  · by_cases isCmd : slot = .cmd
    · exact isCmd ▸ command_has_next v lat s
    · exact ⟨_, writeSlot_eq_written isCmd⟩

theorem hostRead_refused (noSlot : slotAt a = none) (s : State) : hostRead a s = .refused .subwordAccess := by
  rw [hostRead, noSlot]

theorem hostWrite_refused (noSlot : slotAt a = none) (v : Word) (lat : Nat) (s : State) :
    hostWrite a v lat s = .refused .subwordAccess := by
  rw [hostWrite, noSlot]

end

/-- Settles O44: an access is refused where it names no slot, and has a next state where it names one. -/
theorem onlyAlignedWordsAreAccepted : Obligations.OnlyAlignedWordsAreAccepted := by
  intro s a v lat
  constructor
  · intro notAlignedWord
    have noSlot := (slotAt_eq_none_iff a).mpr notAlignedWord
    exact ⟨hostRead_refused noSlot s, hostWrite_refused noSlot v lat s⟩
  · rintro ⟨isWord, aligned⟩
    have someSlot : slotAt a ≠ none := by simp [slotAt_eq_none_iff, isWord, aligned]
    obtain ⟨slot, names⟩ := Option.ne_none_iff_exists'.mp someSlot
    exact ⟨hostRead_has_next names s, hostWrite_has_next names v lat s⟩

/-! ## A step -/

section
variable {s : State} {p : Pending} {n lat : Nat} {op : HostOp} {w : Word} {rest : List HostOp}

theorem hostTurn_nil (next : s.inputs = []) : hostTurn s = .next s := by
  rw [hostTurn, next]

theorem hostTurn_cons (next : s.inputs = op :: rest) : hostTurn s = hostAct op (s.setInputs rest) := by
  rw [hostTurn, next]

theorem step_of_idle (idle : s.pending = none) : step s = hostTurn s := by
  rw [step, idle]

theorem step_of_completion (hp : s.pending = some p) (wait : p.wait = 0) : step s = exec p.instr s := by
  simp only [step, hp, wait]

theorem step_of_waiting (hp : s.pending = some p) (wait : p.wait = n + 1) : step s = hostTurn (s.tick p n) := by
  simp only [step, hp, wait]

theorem step_idle_cons (idle : s.pending = none) (next : s.inputs = op :: rest) :
    step s = hostAct op (s.setInputs rest) :=
  (step_of_idle idle).trans (hostTurn_cons next)

theorem step_waiting_cons (hp : s.pending = some p) (wait : p.wait = n + 1) (next : s.inputs = op :: rest) :
    step s = hostAct op ((s.tick p n).setInputs rest) :=
  (step_of_waiting hp wait).trans (hostTurn_cons next)

theorem step_idle_command (idle : s.pending = none) (next : s.inputs = .write (wordAt 0x04) w lat :: rest) :
    step s = command w lat (s.setInputs rest) :=
  (step_idle_cons idle next).trans (hostWrite_cmd_of_idle (s := s.setInputs rest) idle)

end

theorem decodeTableWord_eq_some {nbits w : Nat} {i : Instr} (h : decodeTableWord nbits w = some i) :
    decode (BitVec.ofNat 32 (w % 2 ^ nbits)) = .ok i := by
  unfold decodeTableWord at h
  split at h
  · next legal => rw [legal, Option.some.inj h]
  · cases h

/-- Settles O7: the engine's completion, a command word on an idle block, and the outside's turn, idle and waiting. -/
theorem stepRunsTheDecodedCommand : Obligations.StepRunsTheDecodedCommand := by
  refine ⟨fun _ _ => step_of_completion, ?runsNow, ?accepted, ?fetched, ?idleRead, ?idleWrite, ?idleNothing,
    ?waitRead, ?waitWrite, ?waitNothing⟩
  case runsNow => exact fun s _ _ rest idle next legal =>
    (step_idle_command idle next).trans (command_now legal (s.setInputs rest))
  case accepted => exact fun s _ _ _ rest idle next legal =>
    (step_idle_command idle next).trans (command_later legal (s.setInputs rest))
  case fetched => exact fun s nbits w _ legal =>
    (step_idle_command (s := s.withFetchWord nbits w) rfl rfl).trans (command_now (decodeTableWord_eq_some legal) _)
  case idleRead => exact fun _ _ _ => step_idle_cons
  case idleWrite => exact fun _ _ _ _ _ => step_idle_cons
  case idleNothing => exact fun _ idle next => (step_of_idle idle).trans (hostTurn_nil next)
  case waitRead => exact fun _ _ _ _ _ => step_waiting_cons
  case waitWrite => exact fun _ _ _ _ _ _ _ => step_waiting_cons
  case waitNothing => exact fun s p n hp wait next =>
    (step_of_waiting hp wait).trans (hostTurn_nil (s := s.tick p n) next)

end Sys2Proof.Machine

/-! The encoding (R70 to R76, R81): a word is its opcode and its operand field, a command has one of each, and the
decoder, the encoder, the rows of R72 and `legal` all speak of that pair. -/

namespace Sys2Proof

/-! ## A word and its two fields -/

@[simp] theorem opcOf_append (opc : BitVec 8) (opnd : BitVec 24) : opcOf (opc ++ opnd) = opc :=
  BitVec.extractLsb'_append_eq_left

@[simp] theorem opndOf_append (opc : BitVec 8) (opnd : BitVec 24) : opndOf (opc ++ opnd) = opnd :=
  BitVec.extractLsb'_append_eq_right

/-- The two fields are all of the word (R70). -/
theorem opcOf_append_opndOf (w : Word) : opcOf w ++ opndOf w = w :=
  (BitVec.extractLsb'_append_extractLsb'_eq_extractLsb' rfl).trans BitVec.extractLsb'_eq_self

theorem append_eq_iff (opc : BitVec 8) (opnd : BitVec 24) (w : Word) :
    opc ++ opnd = w ↔ opc = opcOf w ∧ opnd = opndOf w := by
  constructor
  · rintro rfl
    simp
  · rintro ⟨rfl, rfl⟩
    exact opcOf_append_opndOf w

/-! ## A command's opcode and operand field -/

/-- The opcode of a command (R72). -/
def opcode : Instr → BitVec 8
  | .ksched => 0x01
  | .saltx _ => 0x02
  | .desrun => 0x03
  | .enc _ => 0x04
  | .dec _ => 0x05
  | .clrerr => 0x0E
  | .zeroize => 0x0F

/-- The operand field of a command: its operand in the low bits, the must-be-zero bits 0 (R73). -/
def operand : Instr → BitVec 24
  | .saltx s => s
  | .enc v => v.setWidth 24
  | .dec c => c.setWidth 24
  | _ => 0

theorem append_zero_or_setWidth (opc : BitVec 8) {n : Nat} (x : BitVec n) (h : n ≤ 24) :
    (opc ++ 0#24) ||| x.setWidth (8 + 24) = opc ++ x.setWidth 24 := by
  apply BitVec.eq_of_getLsbD_eq
  intro b hb
  rw [BitVec.getLsbD_or, BitVec.getLsbD_append, BitVec.getLsbD_append, BitVec.getLsbD_setWidth]
  by_cases low : b < 24
  · simp [low, hb]
  · have above : x.getLsbD b = false := BitVec.getLsbD_of_ge x b (by omega)
    simp [low, above]

theorem encode_eq_append (i : Instr) : encode i = opcode i ++ operand i := by
  cases i with
  | saltx s => exact (append_zero_or_setWidth 0x02 s (by decide)).trans (by rw [BitVec.setWidth_eq]; rfl)
  | enc v => exact append_zero_or_setWidth 0x04 v (by decide)
  | dec c => exact append_zero_or_setWidth 0x05 c (by decide)
  | _ => rfl

theorem encode_eq_iff (i : Instr) (w : Word) : encode i = w ↔ opcode i = opcOf w ∧ operand i = opndOf w := by
  rw [encode_eq_append, append_eq_iff]

/-! ## The decoder reads back the two fields -/

/-- A field is a zero-extended operand exactly where its high part is 0 and its low part is the operand. -/
theorem setWidth_eq_iff {n m w : Nat} (h : n + m = w) (v : BitVec n) (x : BitVec w) :
    v.setWidth w = x ↔ x.extractLsb' n m = 0 ∧ x.extractLsb' 0 n = v := by
  constructor
  · rintro rfl
    simp only [BitVec.extractLsb'_setWidth_of_le (Nat.le_of_eq h),
      BitVec.extractLsb'_setWidth_of_le (show 0 + n ≤ w by omega), BitVec.extractLsb'_eq_self, and_true]
    apply BitVec.eq_of_getLsbD_eq
    simp
  · rintro ⟨high, rfl⟩
    apply BitVec.eq_of_getLsbD_eq
    intro b hb
    by_cases low : b < n
    · simp [low, hb]
    · have zero := congrArg (·.getLsbD (b - n)) high
      have inPart : b - n < m := by omega
      have shift : n + (b - n) = b := by omega
      simp only [BitVec.getLsbD_extractLsb', inPart, shift] at zero
      simpa [low] using zero.symm

theorem decodeNone_eq_ok_iff (opnd : BitVec 24) (i j : Instr) :
    decodeNone opnd i = .ok j ↔ i = j ∧ opnd = 0 := by
  unfold decodeNone
  split <;> simp_all

/-- An immediate form of `n` bits is read exactly where the field is a zero-extended immediate (R73). -/
theorem imm_eq_ok_iff {n m : Nat} (h : n + m = 24) (form : BitVec n → Instr) (opnd : BitVec 24) (e : IllegalWord)
    (j : Instr) :
    (if opnd.extractLsb' n m = 0 then .ok (form (opnd.extractLsb' 0 n)) else .error e) = Except.ok j ↔
      ∃ v, form v = j ∧ v.setWidth 24 = opnd := by
  simp only [setWidth_eq_iff h]
  split <;> simp_all

/-- The decoder gives the command that has the word's two fields (R76). -/
theorem decode_eq_ok_iff_fields (w : Word) (i : Instr) :
    decode w = .ok i ↔ opcode i = opcOf w ∧ operand i = opndOf w := by
  constructor
  · intro legal
    unfold decode at legal
    split at legal
    case h_1 opc | h_3 opc | h_6 opc | h_7 opc =>
      obtain ⟨rfl, zero⟩ := (decodeNone_eq_ok_iff _ _ _).mp legal
      exact ⟨(BitVec.eq_of_toNat_eq opc).symm, zero.symm⟩
    case h_2 opc =>
      cases legal
      exact ⟨(BitVec.eq_of_toNat_eq opc).symm, rfl⟩
    case h_4 opc =>
      obtain ⟨v, rfl, extended⟩ := (imm_eq_ok_iff rfl Instr.enc _ _ _).mp legal
      exact ⟨(BitVec.eq_of_toNat_eq opc).symm, extended⟩
    case h_5 opc =>
      obtain ⟨c, rfl, extended⟩ := (imm_eq_ok_iff rfl Instr.dec _ _ _).mp legal
      exact ⟨(BitVec.eq_of_toNat_eq opc).symm, extended⟩
    case h_8 => cases legal
  · rintro ⟨opc, opnd⟩
    rw [decode, ← opc, ← opnd]
    cases i with
    | ksched | desrun | clrerr | zeroize => exact (decodeNone_eq_ok_iff _ _ _).mpr ⟨rfl, rfl⟩
    | saltx s => rfl
    | enc v => exact (imm_eq_ok_iff rfl Instr.enc _ _ _).mpr ⟨v, rfl, rfl⟩
    | dec c => exact (imm_eq_ok_iff rfl Instr.dec _ _ _).mpr ⟨c, rfl, rfl⟩

/-- The decoder accepts exactly a command's word, as that command (R76, R81). -/
theorem decode_eq_ok_iff (w : Word) (i : Instr) : decode w = .ok i ↔ encode i = w :=
  (decode_eq_ok_iff_fields w i).trans (encode_eq_iff i w).symm

@[simp] theorem decode_encode (i : Instr) : decode (encode i) = .ok i :=
  (decode_eq_ok_iff _ i).mpr rfl

/-- Settles O1: the decoder accepts a command's word as that command. -/
theorem decodeOfEncodeGivesCommandBack : Obligations.DecodeOfEncodeGivesCommandBack :=
  decode_encode

/-- Settles O2: the word accepted is the command's word. -/
theorem encodeOfDecodeGivesWordBack : Obligations.EncodeOfDecodeGivesWordBack :=
  fun w i => (decode_eq_ok_iff w i).mp

/-! ## The forms of R73 -/

/-- How many operand bits the form of an opcode has (R73). -/
def formWidth (opc : BitVec 8) : Nat :=
  match opc.toNat with
  | 0x02 => 24
  | 0x04 => 6
  | 0x05 => 8
  | _ => 0

/-- The must-be-zero bits of a form of `n` operand bits are 0 (R73, R75). -/
def ZeroFrom (n : Nat) (opnd : BitVec 24) : Prop :=
  ∀ b < 24, n ≤ b → opnd.getLsbD b = false

theorem and_allOnes_shiftLeft_eq_zero_iff {w : Nat} (n : Nat) (x : BitVec w) :
    x &&& (BitVec.allOnes w <<< n) = 0 ↔ ∀ b < w, n ≤ b → x.getLsbD b = false := by
  rw [BitVec.eq_of_getLsbD_eq_iff]
  refine forall₂_congr fun b hb => ?_
  by_cases high : n ≤ b
  · have inMask : ¬ b < n := by omega
    simp [hb, high, inMask]
  · simp [hb, high, Nat.lt_of_not_le high]

theorem zeroFrom_zero_iff (opnd : BitVec 24) : ZeroFrom 0 opnd ↔ opnd = 0 := by
  simp [ZeroFrom, BitVec.eq_of_getLsbD_eq_iff]

/-- A form of 24 operand bits has no must-be-zero bits. -/
theorem zeroFrom_full (opnd : BitVec 24) : ZeroFrom 24 opnd :=
  fun _ inField high => absurd inField (Nat.not_lt.mpr high)

theorem zeroFrom_setWidth {n : Nat} (v : BitVec n) : ZeroFrom n (v.setWidth 24) := by
  intro b _ high
  simp [BitVec.getLsbD_of_ge v b high]

theorem exists_setWidth_of_zeroFrom {n : Nat} {opnd : BitVec 24} (zero : ZeroFrom n opnd) :
    ∃ v : BitVec n, v.setWidth 24 = opnd := by
  refine ⟨opnd.setWidth n, BitVec.eq_of_getLsbD_eq fun b hb => ?_⟩
  by_cases low : b < n
  · simp [low, hb]
  · rw [zero b hb (by omega)]
    simp [low]

/-- A command's operand field keeps to its form. -/
theorem zeroFrom_operand (i : Instr) : ZeroFrom (formWidth (opcode i)) (operand i) := by
  cases i with
  | saltx s => exact zeroFrom_full s
  | enc v => exact zeroFrom_setWidth v
  | dec c => exact zeroFrom_setWidth c
  | _ => exact (zeroFrom_zero_iff _).mpr rfl

/-- Every field that keeps to the form of an opcode is that of a command with the opcode. -/
theorem exists_operand_of_zeroFrom {i : Instr} {opnd : BitVec 24} (zero : ZeroFrom (formWidth (opcode i)) opnd) :
    ∃ j, opcode j = opcode i ∧ operand j = opnd := by
  cases i with
  | saltx s => exact ⟨.saltx opnd, rfl, rfl⟩
  | enc v =>
    obtain ⟨v, rfl⟩ := exists_setWidth_of_zeroFrom zero
    exact ⟨.enc v, rfl, rfl⟩
  | dec c =>
    obtain ⟨c, rfl⟩ := exists_setWidth_of_zeroFrom zero
    exact ⟨.dec c, rfl, rfl⟩
  | _ => exact ⟨_, rfl, ((zeroFrom_zero_iff opnd).mp zero).symm⟩

/-! ## The rows of R72 -/

theorem rowMatch_eq_append (i : Instr) : rowMatch i = opcode i ++ 0#24 := by
  rw [eq_comm, append_eq_iff]
  cases i <;> simp [rowMatch, opcode, opcOf, opndOf]

theorem opcOf_rowMask (i : Instr) : opcOf (rowMask i) = BitVec.allOnes 8 := by
  cases i <;> simp [opcOf, rowMask]

/-- The operand bits that a row's mask keeps are the must-be-zero bits of the form (R72, R73). -/
theorem and_rowMask_operand_iff (i : Instr) (opnd : BitVec 24) :
    opnd &&& opndOf (rowMask i) = 0 ↔ ZeroFrom (formWidth (opcode i)) opnd := by
  have mask : opndOf (rowMask i) = BitVec.allOnes 24 <<< formWidth (opcode i) := by
    cases i <;> simp [opndOf, rowMask, formWidth, opcode]
  rw [mask]
  exact and_allOnes_shiftLeft_eq_zero_iff _ _

theorem rowMatch_eq_iff (i j : Instr) : rowMatch i = rowMatch j ↔ opcode i = opcode j := by
  rw [rowMatch_eq_append, rowMatch_eq_append, BitVec.append_left_inj]

/-- A word matches a row where its opcode is the row's and its operand field keeps to the form. -/
theorem and_rowMask_eq_rowMatch_iff (w : Word) (i : Instr) :
    w &&& rowMask i = rowMatch i ↔ opcode i = opcOf w ∧ ZeroFrom (formWidth (opcode i)) (opndOf w) := by
  have opc : opcOf (w &&& rowMask i) = opcOf w := by
    rw [opcOf, BitVec.extractLsb'_and, ← opcOf, ← opcOf, opcOf_rowMask, BitVec.and_allOnes]
  have opnd : opndOf (w &&& rowMask i) = opndOf w &&& opndOf (rowMask i) := BitVec.extractLsb'_and
  rw [rowMatch_eq_append, eq_comm, append_eq_iff, opc, opnd, eq_comm (a := 0#24)]
  exact and_congr_right' (and_rowMask_operand_iff i _)

theorem exists_decode_of_row_iff (w : Word) (i : Instr) :
    (∃ j, decode w = .ok j ∧ rowMatch j = rowMatch i) ↔
      opcode i = opcOf w ∧ ZeroFrom (formWidth (opcode i)) (opndOf w) := by
  simp only [decode_eq_ok_iff_fields, rowMatch_eq_iff]
  constructor
  · rintro ⟨j, ⟨opc, opnd⟩, sameRow⟩
    rw [← sameRow, ← opnd]
    exact ⟨opc, zeroFrom_operand j⟩
  · rintro ⟨opc, zero⟩
    obtain ⟨j, sameRow, opnd⟩ := exists_operand_of_zeroFrom zero
    exact ⟨j, ⟨sameRow.trans opc, opnd⟩, sameRow⟩

theorem decode_of_unassigned {w : Word} (unassigned : (opcOf w).toNat ∉ [0x01, 0x02, 0x03, 0x04, 0x05, 0x0E, 0x0F]) :
    decode w = .error (.unassignedOpcode (opcOf w)) := by
  unfold decode
  split <;> simp_all

/-- Settles O3: a word matches a row, and decodes to a command of it, where its two fields are the row's. -/
theorem wordEncodesCommandExactlyByItsRow : Obligations.WordEncodesCommandExactlyByItsRow := by
  refine ⟨fun _ _ _ => rfl, fun w i => ?decoded, fun w i j rowI rowJ => ?unique, fun w => decode_of_unassigned⟩
  case decoded => rw [and_rowMask_eq_rowMatch_iff, exists_decode_of_row_iff]
  case unique =>
    obtain ⟨opcI, _⟩ := (and_rowMask_eq_rowMatch_iff w i).mp rowI
    obtain ⟨opcJ, _⟩ := (and_rowMask_eq_rowMatch_iff w j).mp rowJ
    exact (rowMatch_eq_iff i j).mpr (opcI.trans opcJ.symm)

/-! ## The legal words of R75 -/

/-- For an assigned opcode `legal` checks the operand bits that the row's mask keeps. -/
theorem legal_opcode_iff_rowMask (i : Instr) (opnd : BitVec 24) :
    legal (opcode i) opnd = true ↔ opnd &&& opndOf (rowMask i) = 0 := by
  cases i with
  | saltx | enc | dec => simp [legal, opcode, rowMask, opndOf]
  | _ =>
    have allBits : opndOf 0xFFFFFFFF = BitVec.allOnes 24 := rfl
    rw [rowMask, allBits, BitVec.and_allOnes]
    simp [legal, opcode]

theorem legal_opcode_iff (i : Instr) (opnd : BitVec 24) :
    legal (opcode i) opnd = true ↔ ZeroFrom (formWidth (opcode i)) opnd :=
  (legal_opcode_iff_rowMask i opnd).trans (and_rowMask_operand_iff i opnd)

theorem exists_opcode_of_legal {opc : BitVec 8} {opnd : BitVec 24} (h : legal opc opnd = true) :
    ∃ i, opcode i = opc := by
  simp only [legal, Bool.or_eq_true, Bool.and_eq_true, beq_iff_eq] at h
  obtain ((rfl | ⟨((rfl | rfl) | rfl) | rfl, _⟩) | ⟨rfl, _⟩) | ⟨rfl, _⟩ := h
  · exact ⟨.saltx 0, rfl⟩
  · exact ⟨.ksched, rfl⟩
  · exact ⟨.desrun, rfl⟩
  · exact ⟨.clrerr, rfl⟩
  · exact ⟨.zeroize, rfl⟩
  · exact ⟨.enc 0, rfl⟩
  · exact ⟨.dec 0, rfl⟩

theorem legal_iff (opc : BitVec 8) (opnd : BitVec 24) :
    legal opc opnd = true ↔ ∃ i, opcode i = opc ∧ ZeroFrom (formWidth (opcode i)) opnd := by
  constructor
  · intro h
    obtain ⟨i, rfl⟩ := exists_opcode_of_legal h
    exact ⟨i, rfl, (legal_opcode_iff i opnd).mp h⟩
  · rintro ⟨i, rfl, zero⟩
    exact (legal_opcode_iff i opnd).mpr zero

theorem legal_iff_exists_decode (w : Word) : legal (opcOf w) (opndOf w) = true ↔ ∃ i, decode w = .ok i := by
  simp only [legal_iff, ← exists_decode_of_row_iff]
  exact ⟨fun ⟨_, j, legal, _⟩ => ⟨j, legal⟩, fun ⟨j, legal⟩ => ⟨j, j, legal, rfl⟩⟩

theorem opcode_mem_assigned (i : Instr) : (opcode i).toNat ∈ [0x01, 0x02, 0x03, 0x04, 0x05, 0x0E, 0x0F] := by
  cases i <;> simp [opcode]

theorem exists_opcode_of_mem {opc : BitVec 8} (assigned : opc.toNat ∈ [0x01, 0x02, 0x03, 0x04, 0x05, 0x0E, 0x0F]) :
    ∃ i, opcode i = opc := by
  have byNat (i : Instr) (h : opc.toNat = (opcode i).toNat) : ∃ i, opcode i = opc :=
    ⟨i, (BitVec.eq_of_toNat_eq h).symm⟩
  simp only [List.mem_cons, List.not_mem_nil, or_false] at assigned
  obtain h | h | h | h | h | h | h := assigned
  · exact byNat .ksched h
  · exact byNat (.saltx 0) h
  · exact byNat .desrun h
  · exact byNat (.enc 0) h
  · exact byNat (.dec 0) h
  · exact byNat .clrerr h
  · exact byNat .zeroize h

/-- The must-be-zero bits as R75 names them, opcode by opcode. -/
theorem zeroFrom_formWidth_iff (i : Instr) (opnd : BitVec 24) :
    ZeroFrom (formWidth (opcode i)) opnd ↔
      ((opcode i).toNat ∈ [0x01, 0x03, 0x0E, 0x0F] → ∀ b < 24, opnd.getLsbD b = false)
      ∧ ((opcode i).toNat = 0x04 → ∀ b < 24, 6 ≤ b → opnd.getLsbD b = false)
      ∧ ((opcode i).toNat = 0x05 → ∀ b < 24, 8 ≤ b → opnd.getLsbD b = false) := by
  cases i with
  | saltx s => exact iff_of_true (zeroFrom_full opnd) (by simp [opcode])
  | _ => simp [opcode, formWidth, ZeroFrom]

/-! ## How many words are legal -/

/-- Every command is one of a SALTX, an ENC, a DEC and the four commands with no operand. -/
def instrEquiv : Instr ≃ ((Half24 ⊕ BitVec 6) ⊕ Byte) ⊕ Fin 4 where
  toFun
    | .saltx s => .inl (.inl (.inl s))
    | .enc v => .inl (.inl (.inr v))
    | .dec c => .inl (.inr c)
    | .ksched => .inr 0
    | .desrun => .inr 1
    | .clrerr => .inr 2
    | .zeroize => .inr 3
  invFun
    | .inl (.inl (.inl s)) => .saltx s
    | .inl (.inl (.inr v)) => .enc v
    | .inl (.inr c) => .dec c
    | .inr 0 => .ksched
    | .inr 1 => .desrun
    | .inr 2 => .clrerr
    | .inr 3 => .zeroize
  left_inv i := by cases i <;> rfl
  right_inv
    | .inl (.inl (.inl _)) | .inl (.inl (.inr _)) | .inl (.inr _) => rfl
    | .inr 0 | .inr 1 | .inr 2 | .inr 3 => rfl

theorem natCard_bitVec (n : Nat) : Nat.card (BitVec n) = 2 ^ n :=
  (Nat.card_congr BitVec.equivFin.toEquiv).trans (Nat.card_fin _)

theorem natCard_instr : Nat.card Instr = 2 ^ 24 + 2 ^ 6 + 2 ^ 8 + 4 := by
  rw [Nat.card_congr instrEquiv, Nat.card_sum, Nat.card_sum, Nat.card_sum, natCard_bitVec, natCard_bitVec,
    natCard_bitVec, Nat.card_fin]

theorem legal_iff_exists_encode (w : Word) : legal (opcOf w) (opndOf w) = true ↔ ∃ i, encode i = w := by
  simp only [legal_iff_exists_decode, decode_eq_ok_iff]

theorem encode_injective : Function.Injective encode := fun i j same => by
  have decoded := decode_encode i
  rw [same, decode_encode j] at decoded
  exact (Except.ok.inj decoded).symm

/-- The legal words are as many as the commands: each is the word of one. -/
theorem natCard_legal : Nat.card { w : Word // legal (opcOf w) (opndOf w) = true } = Nat.card Instr := by
  simp only [legal_iff_exists_encode]
  exact (Nat.card_congr (Equiv.ofInjective encode encode_injective)).symm

/-! ## The assembler (R81) -/

theorem assemble_eq_some_iff (c : AsmCommand) (w : Word) :
    assemble c = some w ↔ c.wf = true ∧ encode c.instr = w := by
  simp [assemble]

/-- A form of `bits` operand bits takes the numbers below `2 ^ bits` as they stand and refuses the others. -/
theorem assemble_operand {c : AsmCommand} {bits n : Nat} (base : Word) (form : bits ≤ 32)
    (range : c.wf = decide (n < 2 ^ bits)) (word : encode c.instr = base ||| (BitVec.ofNat bits n).setWidth 32) :
    assemble c = if n < 2 ^ bits then some (base ||| BitVec.ofNat 32 n) else none := by
  rw [assemble, range, word]
  by_cases inRange : n < 2 ^ bits
  · simp only [inRange, decide_true, if_true, BitVec.setWidth_ofNat_of_le_of_lt form inRange]
  · simp [inRange]

/-- Settles O6: the words of operands in range, the refusals, and `decode_encode` for what is given. -/
theorem assemblerWordsAndRefusals : Obligations.AssemblerWordsAndRefusals := by
  refine ⟨rfl, fun n => ?saltx, rfl, fun n => ?enc, fun n => ?dec, rfl, rfl, fun c w given => ?decoded⟩
  case saltx => exact assemble_operand (bits := 24) 0x02000000 (by decide) rfl rfl
  case enc => exact assemble_operand (bits := 6) 0x04000000 (by decide) rfl rfl
  case dec => exact assemble_operand (bits := 8) 0x05000000 (by decide) rfl rfl
  case decoded =>
    obtain ⟨_, rfl⟩ := (assemble_eq_some_iff c w).mp given
    exact decode_encode c.instr

/-- Settles O5: each word, evaluated. -/
theorem sampleWordsDecode : Obligations.SampleWordsDecode := by
  unfold Obligations.SampleWordsDecode
  decide

end Sys2Proof

/-! A command word on an idle block (R71, R225), and the pseudo-operations WAIT and LOADKEY (R82). -/

namespace Sys2Proof.Machine

section
variable {s : State} {w : Word} {i : Instr} {n : Nat}

theorem command_illegal {e : IllegalWord} (illegal : decode w = .error e) (lat : Nat) (s : State) :
    command w lat s = .next (s.raiseError .illegalCmd) := by
  rw [command, illegal]

theorem issue_accepted (key : i = .desrun → s.kv = true) : issue i n s = s.accept i s.live n :=
  if_neg fun ⟨isDesrun, noKey⟩ => Bool.false_ne_true (noKey.symm.trans (key isDesrun))

theorem State.complete_of_idle (idle : s.pending = none) : s.complete = s := by
  rw [State.complete, ← idle]

/-- A DESRUN without a key raises NO_KEY whatever its latency (R160). -/
theorem command_noKey (legal : decode w = .ok .desrun) (idle : s.pending = none) (noKey : s.kv = false) (lat : Nat) :
    command w lat s = .next (s.raiseError .noKey) := by
  cases lat with
  | zero =>
    have raised : effect .desrun s = s.raiseError .noKey :=
      if_neg (by simp [State.operands_of_idle s idle, State.live, noKey])
    rw [command_now legal, exec_eq_effect, raised, State.complete_of_idle (s := s.raiseError .noKey) idle]
  | succ n => rw [command_later legal, issue, if_pos ⟨rfl, noKey⟩]

/-- Acceptance fixes the registers as they stand, so a command completes as if it had run at once (R225). -/
theorem exec_accept (idle : s.pending = none) (i : Instr) (n : Nat) : exec i (s.accept i s.live n) = exec i s := by
  have sameOperands : (s.accept i s.live n).operands = s.operands := (State.operands_of_idle s idle).symm
  rw [exec_eq_effect, exec_eq_effect]
  cases i with
  | desrun =>
    simp only [effect, sameOperands]
    split <;> rfl
  | ksched => simp only [effect, sameOperands]; rfl
  | _ => rfl

end

/-- Settles O4: the form's bits, the decoder, the rejection of any other word, and the count of the commands. -/
theorem legalWordsAreThoseDecoded : Obligations.LegalWordsAreThoseDecoded := by
  refine ⟨fun w => ⟨?bits, ?ofBits⟩, fun w => (legal_iff_exists_decode w).symm, fun w lat s notLegal idle => ?illegal,
    natCard_legal.trans natCard_instr⟩
  case bits =>
    intro isLegal
    obtain ⟨i, opc, zero⟩ := (legal_iff _ _).mp isLegal
    rw [← opc]
    exact ⟨opcode_mem_assigned i, (zeroFrom_formWidth_iff i _).mp zero⟩
  case ofBits =>
    rintro ⟨assigned, zero⟩
    obtain ⟨i, opc⟩ := exists_opcode_of_mem assigned
    rw [← opc] at zero ⊢
    exact (legal_opcode_iff i _).mpr ((zeroFrom_formWidth_iff i _).mpr zero)
  case illegal =>
    rw [hostWrite_cmd_of_idle idle]
    cases read : decode w with
    | error e => exact command_illegal read lat s
    | ok i =>
      have isLegal := (legal_iff_exists_decode w).mpr ⟨i, read⟩
      exact absurd (notLegal.symm.trans isLegal) Bool.false_ne_true

/-- Settles O8: the outcomes of R71, each a rule of `command` on an idle block. -/
theorem commandAcceptance : Obligations.CommandAcceptance := by
  intro s w idle
  simp only [hostWrite_cmd_of_idle idle]
  refine ⟨fun e lat illegal => command_illegal illegal lat s, fun i lat legal isDesrun noKey => ?noKey,
    fun i n legal key => ?pending, fun i legal _ => ?now⟩
  case noKey => exact command_noKey (isDesrun ▸ legal) idle noKey lat
  case pending =>
    refine ⟨s.accept i s.live n, ?_, rfl, (status_flag_bits _).1⟩
    rw [command_later legal, issue_accepted key]
  case now => exact (command_now legal s).trans (exec_accept idle i 0).symm

/-- A run goes on after the write of an idle block's slot other than CMD. -/
theorem run_idle_write {s : State} {a : Access} {slot : Slot} {v : Word} {lat k : Nat} {rest : List HostOp}
    (idle : s.pending = none) (next : s.inputs = .write a v lat :: rest) (names : slotAt a = some slot)
    (notCmd : slot ≠ .cmd) :
    Host.Core.run core (k + 1) s = Host.Core.run core k ((s.setInputs rest).written v slot) := by
  apply run_succ
  rw [step_idle_cons idle next]
  exact (hostWrite_of_idle (s := s.setInputs rest) idle names).trans (writeSlot_eq_written notCmd)

theorem bytes_of_append (b3 b2 b1 b0 : Byte) :
    (b3 ++ b2 ++ b1 ++ b0 : Word).extractLsb' 24 8 = b3 ∧ (b3 ++ b2 ++ b1 ++ b0 : Word).extractLsb' 16 8 = b2
    ∧ (b3 ++ b2 ++ b1 ++ b0 : Word).extractLsb' 8 8 = b1 ∧ (b3 ++ b2 ++ b1 ++ b0 : Word).extractLsb' 0 8 = b0 := by
  simp (disch := decide) only [extractLsb'_append_upper, extractLsb'_append_lower]
  exact ⟨BitVec.extractLsb'_eq_self, BitVec.extractLsb'_eq_self, BitVec.extractLsb'_eq_self, BitVec.extractLsb'_eq_self⟩

/-- Settles O49: two register writes, and the bytes of each packed word. -/
theorem loadkeyPacksBigEndian : Obligations.LoadkeyPacksBigEndian := by
  intro s lat kb0 kb1 kb2 kb3 kb4 kb5 kb6 kb7 idle
  refine ⟨_, { s with keyHi := kb0 ++ kb1 ++ kb2 ++ kb3, keyLo := kb4 ++ kb5 ++ kb6 ++ kb7, inputs := [] }, rfl, ?run,
    rfl, ?bytes⟩
  case run =>
    have namesHi : slotAt (wordAt Reg.keyHi.offset) = some .keyHi := rfl
    have namesLo : slotAt (wordAt Reg.keyLo.offset) = some .keyLo := rfl
    refine Eq.trans (run_idle_write (slot := .keyHi) ?_ rfl namesHi (by decide)) ?_
    · exact idle
    · exact run_idle_write (k := 0) (slot := .keyLo) idle rfl namesLo (by decide)
  case bytes =>
    obtain ⟨h3, h2, h1, h0⟩ := bytes_of_append kb0 kb1 kb2 kb3
    obtain ⟨l3, l2, l1, l0⟩ := bytes_of_append kb4 kb5 kb6 kb7
    exact ⟨h3, h2, h1, h0, l3, l2, l1, l0⟩

theorem hostAct_wait_idle {s : State} (idle : s.pending = none) : hostAct .wait s = .next s := by
  simp [hostAct, State.busy, idle]

theorem hostAct_wait_busy {s : State} (busy : s.busy = true) :
    hostAct .wait s = .next (s.setInputs (.wait :: s.inputs)) := by
  simp [hostAct, busy]

/-- Settles O50: WAIT is taken off the inputs on an idle block, and put back, after the tick, on a busy one. -/
theorem waitPollsUntilIdle : Obligations.WaitPollsUntilIdle := by
  constructor
  · intro s rest idle next
    exact (step_idle_cons idle next).trans (hostAct_wait_idle (s := s.setInputs rest) idle)
  · intro s p n rest hp wait next
    rw [step_waiting_cons hp wait next, hostAct_wait_busy rfl, State.setInputs_inputs, ← next]
    rfl

end Sys2Proof.Machine

/-! A command word whose operand field breaks its form (R73, R75), and a command word written as base plus operand. -/

namespace Sys2Proof.Machine

theorem append_zero_add_setWidth (opc : BitVec 8) {n : Nat} (x : BitVec n) (h : n ≤ 24) :
    (opc ++ 0#24) + x.setWidth (8 + 24) = (opc ++ 0#24) ||| x.setWidth (8 + 24) := by
  apply BitVec.add_eq_or_of_and_eq_zero
  apply BitVec.eq_of_getLsbD_eq
  intro b _
  by_cases low : b < n
  · have inOperand : b < 24 := by omega
    rw [BitVec.getLsbD_and, BitVec.getLsbD_append]
    simp [inOperand]
  · simp [BitVec.getLsbD_of_ge x b (Nat.le_of_not_lt low)]

theorem decode_enc_word (v : BitVec 6) : decode (0x04000000 + v.setWidth 32) = .ok (.enc v) :=
  (decode_eq_ok_iff _ _).mpr (append_zero_add_setWidth 0x04 v (by decide)).symm

theorem decode_dec_word (c : Byte) : decode (0x05000000 + c.setWidth 32) = .ok (.dec c) :=
  (decode_eq_ok_iff _ _).mpr (append_zero_add_setWidth 0x05 c (by decide)).symm

/-- A word of a command's opcode with a must-be-zero bit set only records ILLEGAL_CMD (R73, R75). -/
theorem hostWrite_cmd_mustBeZero (i : Instr) {w : Word} {s : State} (opc : opcOf w = opcode i)
    (nonzero : opndOf w &&& opndOf (rowMask i) ≠ 0) (idle : s.pending = none) (lat : Nat) :
    hostWrite (wordAt 0x04) w lat s
      = .next { s with err := true, errCode := if s.err then s.errCode else .illegalCmd } := by
  obtain ⟨_, _, illegal, _⟩ := legalWordsAreThoseDecoded
  have notLegal : legal (opcOf w) (opndOf w) = false := by
    rw [opc, Bool.eq_false_iff]
    exact mt (legal_opcode_iff_rowMask i _).mp nonzero
  exact illegal w lat s notLegal idle

end Sys2Proof.Machine

/-! The crypt alphabet (R100, R101) is three runs of consecutive bytes, which fixes A64, its image and the value that
DEC computes (R103 to R105). -/

namespace Sys2Proof.Machine

/-! ## The alphabet -/

/-- The bytes from '.' to '9', from 'A' to 'Z' and from 'a' to 'z'. -/
theorem alphabet_runs :
    alphabet.map BitVec.toNat = List.range' 0x2E 12 ++ List.range' 0x41 26 ++ List.range' 0x61 26 := rfl

theorem alphabet_eq_alphabetText : alphabet.map BitVec.toNat = alphabetText.map Char.toNat := rfl

theorem a64_toNat_eq_getD (v : BitVec 6) : (a64 v).toNat = (alphabet.map BitVec.toNat).getD v.toNat 0 :=
  (List.getD_map alphabet 0 BitVec.toNat).symm

/-- A64 is the source's string (R100). -/
theorem a64_toNat_eq_alphabetText (v : BitVec 6) : (a64 v).toNat = (alphabetText.getD v.toNat ' ').toNat := by
  have inText : v.toNat < alphabetText.length := v.isLt
  rw [a64_toNat_eq_getD, alphabet_eq_alphabetText, List.getD_eq_getElem _ _ inText]
  simp [inText]

/-- A64 as a formula: the place in the run of v, which starts at value 0, 12 or 38. -/
theorem a64_toNat (v : BitVec 6) :
    (a64 v).toNat = if v.toNat < 12 then v.toNat + 46 else if v.toNat < 38 then v.toNat + 53 else v.toNat + 59 := by
  have inRuns : v.toNat < (alphabet.map BitVec.toNat).length := v.isLt
  rw [a64_toNat_eq_getD, List.getD_eq_getElem _ _ inRuns]
  simp only [alphabet_runs, List.getElem_append, List.getElem_range', List.length_append, List.length_range']
  split_ifs <;> omega

theorem inAlpha_iff (c : Byte) :
    inAlpha c = true ↔ (0x2E ≤ c.toNat ∧ c.toNat ≤ 0x39) ∨ (0x41 ≤ c.toNat ∧ c.toNat ≤ 0x5A)
      ∨ (0x61 ≤ c.toNat ∧ c.toNat ≤ 0x7A) := by
  simp only [inAlpha, Bool.or_eq_true, Bool.and_eq_true, beq_iff_eq, decide_eq_true_eq]
  omega

theorem a64_injective : Function.Injective a64 := by
  intro v w same
  have sameByte := congrArg BitVec.toNat same
  rw [a64_toNat, a64_toNat] at sameByte
  apply BitVec.eq_of_toNat_eq
  split_ifs at sameByte <;> omega

theorem inAlpha_a64 (v : BitVec 6) : inAlpha (a64 v) = true := by
  rw [inAlpha_iff, a64_toNat]
  split_ifs <;> omega

/-! ## The decode function -/

/-- The signed difference of R103, in exact integers. -/
def signedDifference (c : Byte) : Int :=
  if 0x61 ≤ c.toInt then c.toInt - 59 else if 0x41 ≤ c.toInt then c.toInt - 53 else c.toInt - 46

/-- The low 6 bits of a 32-bit difference are those of the exact one. -/
theorem extractLsb'_sub_eq (x y : Word) :
    (x - y).extractLsb' 0 6 = BitVec.ofNat 6 ((x.toInt - y.toInt) % 64).toNat := by
  apply BitVec.eq_of_toNat_eq
  simp only [BitVec.extractLsb'_toNat, BitVec.toNat_sub, BitVec.toNat_ofNat, BitVec.toInt_eq_toNat_cond,
    Nat.shiftRight_zero]
  split_ifs <;> omega

theorem decodeChar_eq (c : Byte) : decodeChar c = BitVec.ofNat 6 (signedDifference c % 64).toNat := by
  have signed : (c.signExtend 32).toInt = c.toInt := BitVec.toInt_signExtend_of_le (by decide)
  have lower : (0x61 : Word).sle (c.signExtend 32) = true ↔ 0x61 ≤ c.toInt := by
    rw [BitVec.sle_iff_toInt_le, signed]; rfl
  have upper : (0x41 : Word).sle (c.signExtend 32) = true ↔ 0x41 ≤ c.toInt := by
    rw [BitVec.sle_iff_toInt_le, signed]; rfl
  simp only [decodeChar, signedDifference, lower, upper]
  split_ifs <;> rw [extractLsb'_sub_eq, signed] <;> rfl

/-- The value in the unsigned form of R103. -/
theorem decodeChar_toNat (c : Byte) :
    (decodeChar c).toNat =
      if c.toNat ≤ 0x40 ∨ 0x80 ≤ c.toNat then (c.toNat + 18) % 64
      else if c.toNat ≤ 0x60 then (c.toNat + 11) % 64
      else (c.toNat + 5) % 64 := by
  have byte := c.isLt
  rw [decodeChar_eq, BitVec.toNat_ofNat, signedDifference, BitVec.toInt_eq_toNat_cond]
  split_ifs <;> omega

/-- DEC undoes ENC on the alphabet (R105). -/
theorem a64_decodeChar_of_inAlpha {c : Byte} (h : inAlpha c = true) : a64 (decodeChar c) = c := by
  rw [inAlpha_iff] at h
  apply BitVec.eq_of_toNat_eq
  rw [a64_toNat, decodeChar_toNat]
  split_ifs <;> omega

theorem a64_decodeChar_eq_iff (c : Byte) : a64 (decodeChar c) = c ↔ inAlpha c = true :=
  ⟨fun h => h ▸ inAlpha_a64 _, a64_decodeChar_of_inAlpha⟩

/-! ## The statements -/

/-- Settles O13: the word is the encoder's, and the character is A64's; the mask of the row names the must-be-zero
bits. -/
theorem encWritesTheCharacter : Obligations.EncWritesTheCharacter := by
  refine ⟨fun v s => ⟨decode_enc_word v, ?char⟩, fun w lat s opc nonzero idle => ?illegal⟩
  case char =>
    rw [← a64_toNat_eq_alphabetText, BitVec.ofNat_toNat, BitVec.setWidth_eq]
    rfl
  case illegal => exact hostWrite_cmd_mustBeZero (.enc 0) opc nonzero idle lat

/-- Settles O14: the model's 32-bit difference has the low 6 bits of the exact one. -/
theorem decWritesValueAndFlag : Obligations.DecWritesValueAndFlag := by
  refine ⟨fun c s => ?runs, fun w lat s opc nonzero idle => ?illegal⟩
  case runs =>
    intro x v
    have value : v = decodeChar c := (decodeChar_eq c).symm
    rw [value]
    exact ⟨decode_dec_word c, rfl, decodeChar_toNat c⟩
  case illegal => exact hostWrite_cmd_mustBeZero (.dec 0) opc nonzero idle lat

/-- Settles O15: the round-trip check succeeds exactly on the image of A64. -/
theorem decFlagIsAlphabetMembership : Obligations.DecFlagIsAlphabetMembership := by
  intro c s
  refine ⟨_, rfl, ?flag, fun member => ?index⟩
  case flag => exact beq_iff_eq.trans (a64_decodeChar_eq_iff c)
  case index => exact (a64_toNat_eq_alphabetText _).symm.trans (congrArg _ (a64_decodeChar_of_inAlpha member))

/-- Settles O12: the three runs are those of ALPHA, and DEC's value is the inverse of A64. -/
theorem alphabetIsABijection : Obligations.AlphabetIsABijection := by
  refine ⟨a64_toNat_eq_alphabetText, fun _ _ same => a64_injective same,
    fun c => ⟨?inImage, fun member => ?ofAlpha⟩⟩
  case inImage =>
    rintro ⟨v, rfl⟩
    exact inAlpha_a64 v
  case ofAlpha => exact ⟨decodeChar c, a64_decodeChar_of_inAlpha member⟩

end Sys2Proof.Machine

/-! The Salt Expander (R120, R121, R123): saltexp reverses the 24 salt bits, and SMASK reads as that mask with zeros
above. -/

namespace Sys2Proof.Machine

theorem saltexp_getLsbD_reversed (salt : Half24) {i : Nat} (h : i < 24) :
    (saltexp salt).getLsbD (23 - i) = salt.getLsbD i := by
  have inMask : 23 - i < 24 := by omega
  have twice : 23 - (23 - i) = i := by omega
  rw [saltexp_getLsbD _ _ inMask, twice]

theorem saltexp_involutive : Function.Involutive saltexp := by
  intro salt
  apply BitVec.eq_of_getLsbD_eq
  intro i hi
  rw [saltexp_getLsbD _ i hi, saltexp_getLsbD_reversed salt hi]

/-- The slot shows the 24 bits of SMASK and zeros above them (R28). -/
theorem readSlot_smask_getLsbD (s : State) (i : Nat) : (readSlot s .smask).getLsbD i = s.smask.getLsbD i := by
  rw [readSlot, BitVec.getLsbD_setWidth, Bool.and_eq_right_iff_imp, decide_eq_true_eq]
  intro set
  have inMask := BitVec.lt_of_getLsbD set
  omega

theorem decode_of_opcOf_saltx {w : Word} (opc : opcOf w = 0x02) : decode w = .ok (.saltx (opndOf w)) :=
  (decode_eq_ok_iff_fields w _).mpr ⟨opc.symm, rfl⟩

/-- Settles O16: SALTX's effect is a write of SMASK alone, whose bits are the salt's in reverse; its form has no
must-be-zero bit. -/
theorem saltxWritesTheReversedSalt : Obligations.SaltxWritesTheReversedSalt := by
  refine ⟨fun salt s => ⟨_, exec_eq_effect (.saltx salt) s, rfl, fun i hi => ?reversed, fun i above => ?zero⟩,
    fun _ => decode_of_opcOf_saltx⟩
  case reversed => exact (readSlot_smask_getLsbD _ _).trans (saltexp_getLsbD_reversed salt hi)
  case zero => exact (readSlot_smask_getLsbD _ _).trans (BitVec.getLsbD_of_ge _ i above)

/-- Settles O17: reversing twice changes nothing, and an involution is a bijection. -/
theorem saltexpIsAnInvolution : Obligations.SaltexpIsAnInvolution :=
  ⟨saltexp_involutive, saltexp_involutive.bijective⟩

end Sys2Proof.Machine

/-! Rotation and selection (R9, R134 to R136): a left rotation reads its bits in a circle, and a table selects the same
bits from two values that agree where its entries point. -/

namespace Sys2Proof.Machine

/-! ## Tables -/

/-- A table reads nothing but the bits its entries name. -/
theorem perm_congr {w w' m : Nat} {table : List Nat} {v : BitVec w} {v' : BitVec w'}
    (agree : ∀ n ∈ table, v.getMsbD (n - 1) = v'.getMsbD (n - 1)) : perm m table v = perm m table v' := by
  rw [perm, perm, List.map_congr_left agree]

/-- A table of two parts gives the two parts' values, put together. -/
theorem perm_append {w a b : Nat} (t u : List Nat) (v : BitVec w) (ht : t.length = a) (hu : u.length = b) :
    perm (a + b) (t ++ u) v = perm a t v ++ perm b u v := by
  subst ht hu
  apply BitVec.eq_of_getMsbD_eq
  intro k _
  rw [BitVec.getMsbD_append, perm_getMsbD _ _ List.length_append, perm_getMsbD _ _ rfl, perm_getMsbD _ _ rfl]
  by_cases first : k < t.length
  · simp [first, Nat.not_le_of_lt first, List.getElem?_append_left]
  · simp [Nat.le_of_not_lt first, List.getElem?_append_right]

/-- A table whose entries all name bits of the upper part does not read the lower one. -/
theorem perm_of_append_upper {a b m : Nat} {table : List Nat} (upper : ∀ n ∈ table, n - 1 < a) (x : BitVec a)
    (y : BitVec b) : perm m table (x ++ y) = perm m table x :=
  perm_congr fun n hn => by simp [BitVec.getMsbD_append, Nat.not_le_of_lt (upper n hn)]

/-- A table whose entries all name bits of the lower part reads them at their place there. -/
theorem perm_of_append_lower {a b m : Nat} {table : List Nat} (lower : ∀ n ∈ table, a ≤ n - 1) (x : BitVec a)
    (y : BitVec b) : perm m table (x ++ y) = perm m (table.map (· - a)) y := by
  have sameBits : table.map (fun n => (x ++ y).getMsbD (n - 1))
      = (table.map (· - a)).map fun n => y.getMsbD (n - 1) := by
    rw [List.map_map]
    apply List.map_congr_left
    intro n hn
    have place : n - a - 1 = n - 1 - a := by omega
    simp [BitVec.getMsbD_append, lower n hn, place]
  rw [perm, perm, sameBits]

/-! ## Rotation -/

/-- For the amounts R9 allows, rol28 is the library's rotation. -/
theorem rol28_eq_rotateLeft (x : BitVec 28) {s : Nat} (h : s ≤ 28) : rol28 x s = x.rotateLeft s := by
  rw [rol28, BitVec.rotateLeft_def]
  obtain below | rfl : s < 28 ∨ s = 28 := by omega
  · rw [Nat.mod_eq_of_lt below]
  · simp [BitVec.ushiftRight_eq_zero]

theorem rol28_getMsbD (x : BitVec 28) {s k : Nat} (hs : s ≤ 28) (hk : k < 28) :
    (rol28 x s).getMsbD k = x.getMsbD ((s + k) % 28) := by
  simp [rol28_eq_rotateLeft x hs, BitVec.getMsbD_rotateLeft, hk]

theorem rol28_rol28 (x : BitVec 28) {a b : Nat} (h : a + b ≤ 28) : rol28 (rol28 x a) b = rol28 x (a + b) := by
  apply BitVec.eq_of_getMsbD_eq
  intro k hk
  have inHalf : (b + k) % 28 < 28 := Nat.mod_lt _ (by decide)
  have sum : (a + (b + k) % 28) % 28 = (a + b + k) % 28 := by omega
  rw [rol28_getMsbD _ (by omega) hk, rol28_getMsbD _ (by omega) inHalf, rol28_getMsbD _ h hk, sum]

theorem rol28_full (x : BitVec 28) : rol28 x 28 = x := by
  simp [rol28, BitVec.shiftLeft_eq_zero]

theorem rol28_one_getLsbD_zero (x : BitVec 28) : (rol28 x 1).getLsbD 0 = x.getLsbD 27 := by
  rw [BitVec.getLsbD_eq_getMsbD, BitVec.getLsbD_eq_getMsbD, rol28_getMsbD x (by decide) (by decide)]
  rfl

/-- A half of equal bits is its own rotation (R138). -/
theorem rol28_of_constant {x : BitVec 28} (constant : x = 0 ∨ x = 0xFFFFFFF) {s : Nat} (h : s ≤ 28) :
    rol28 x s = x := by
  apply BitVec.eq_of_getMsbD_eq
  intro k hk
  have inHalf : (s + k) % 28 < 28 := Nat.mod_lt _ (by decide)
  have ones : (0xFFFFFFF : BitVec 28) = BitVec.allOnes 28 := rfl
  rw [rol28_getMsbD x h hk]
  obtain rfl | rfl := constant
  · simp
  · rw [ones, BitVec.getMsbD_allOnes, BitVec.getMsbD_allOnes, decide_eq_true hk, decide_eq_true inHalf]

/-! ## The cumulative amounts -/

theorem cum_eq_cumTable : ∀ i < 16, cum i = cumTable.getD i 0 := by decide

theorem cum_succ {i : Nat} (h : i + 1 < 16) : cum (i + 1) = cum i + shifts.getD (i + 1) 0 := by
  have inTable : i + 1 < shifts.length := h
  rw [cum, List.take_succ_eq_append_getElem inTable, List.sum_append, List.getD_eq_getElem _ _ inTable]
  simp [cum]

theorem cum_le (i : Nat) : cum i ≤ 28 :=
  (List.take_sublist _ shifts).sum_le_sum fun _ _ => Nat.zero_le _

/-- Settles O20: rotations add up as long as the amounts' sum is at most 28, and the sums are the cumulative amounts. -/
theorem rotationIsRoundByRound : Obligations.RotationIsRoundByRound := by
  refine ⟨rfl, cum_eq_cumTable, fun x i h => ?round, fun _ => rfl, rol28_one_getLsbD_zero, rol28_full⟩
  case round =>
    have sum := cum_succ h
    rw [rol28_rol28 x (sum ▸ cum_le (i + 1)), sum]

end Sys2Proof.Machine

/-! The Key Scheduler (R130 to R139): an entry of the schedule is PC-2 of the rotated halves, and each of its halves is
a selection from one rotated half alone. -/

namespace Sys2Proof.Machine

/-! ## One subkey -/

theorem subKeyOf_append (c d : BitVec 28) : (subKeyOf c d).l ++ (subKeyOf c d).r = (perm 48 pc2 (c ++ d) : BitVec 48) :=
  (BitVec.extractLsb'_append_extractLsb'_eq_extractLsb' rfl).trans BitVec.extractLsb'_eq_self

/-- The two halves of PC-2's table give the two halves of its output (R136). -/
theorem perm_pc2_eq_append (v : BitVec 56) :
    (perm 48 pc2 v : BitVec 48) = (perm 24 (pc2.take 24) v : Half24) ++ (perm 24 (pc2.drop 24) v : Half24) :=
  perm_append (pc2.take 24) (pc2.drop 24) v rfl rfl

/-- The first 24 entries of PC-2 all lie in 1..28 (R136). -/
theorem subKeyOf_l (c d : BitVec 28) : (subKeyOf c d).l = perm 24 (pc2.take 24) c := by
  rw [subKeyOf, perm_pc2_eq_append]
  exact BitVec.extractLsb'_append_eq_left.trans (perm_of_append_upper (by decide) c d)

/-- The last 24 entries of PC-2 all lie in 29..56 (R136). -/
theorem subKeyOf_r (c d : BitVec 28) : (subKeyOf c d).r = perm 24 ((pc2.drop 24).map (· - 28)) d := by
  rw [subKeyOf, perm_pc2_eq_append]
  exact BitVec.extractLsb'_append_eq_right.trans (perm_of_append_lower (by decide) c d)

theorem not_mem_pc2_iff : ∀ n ≤ 56, 1 ≤ n → (n ∉ pc2 ↔ n ∈ [9, 18, 22, 25, 35, 38, 43, 54]) := by decide

/-- Settles O22: each half of PC-2's table selects from one half of its input, and the entries are enumerated. -/
theorem subkeyHalvesAreIndependent : Obligations.SubkeyHalvesAreIndependent := by
  refine ⟨fun c d d' => ?left, fun c c' d => ?right, fun n low high => not_mem_pc2_iff n high low⟩
  case left => rw [subKeyOf_l, subKeyOf_l]
  case right => rw [subKeyOf_r, subKeyOf_r]

/-! ## The schedule -/

/-- An entry of a file of 16 that is listed in order. -/
theorem vector16_getElem {α : Type} (k : Nat → α) (i : Fin 16) :
    #v[k 0, k 1, k 2, k 3, k 4, k 5, k 6, k 7, k 8, k 9, k 10, k 11, k 12, k 13, k 14, k 15][i] = k i := by
  fin_cases i <;> rfl

theorem schedule_getElem (key : BitVec 64) (i : Fin 16) : (schedule key)[i] = subKey (c0 key) (d0 key) i :=
  vector16_getElem (subKey (c0 key) (d0 key)) i

/-- The schedule reads the key through its two halves (R133). -/
theorem schedule_of_halves {key key' : BitVec 64} (hc : c0 key = c0 key') (hd : d0 key = d0 key') :
    schedule key = schedule key' := by
  apply Vector.ext
  intro i hi
  calc (schedule key)[i]
      = subKey (c0 key) (d0 key) i := schedule_getElem key ⟨i, hi⟩
    _ = subKey (c0 key') (d0 key') i := by rw [hc, hd]
    _ = (schedule key')[i] := (schedule_getElem key' ⟨i, hi⟩).symm

theorem subKey_of_constant {c d : BitVec 28} (hc : c = 0 ∨ c = 0xFFFFFFF) (hd : d = 0 ∨ d = 0xFFFFFFF) (i : Nat) :
    subKey c d i = subKeyOf c d := by
  rw [subKey, rol28_of_constant hc (cum_le i), rol28_of_constant hd (cum_le i)]

/-- Constant halves give every round the subkey of the halves themselves (R138). -/
theorem schedule_getElem_of_constant {key : BitVec 64} {c d : BitVec 28} (halves : c0 key = c ∧ d0 key = d)
    (constC : c = 0 ∨ c = 0xFFFFFFF) (constD : d = 0 ∨ d = 0xFFFFFFF) (i : Fin 16) :
    (schedule key)[i] = subKeyOf c d := by
  obtain ⟨hc, hd⟩ := halves
  rw [schedule_getElem, hc, hd, subKey_of_constant constC constD]

/-! ## The parity positions -/

/-- PC-1 names no parity position (R131). -/
theorem pc1_avoids_parity : ∀ n ∈ pc1, (~~~parityMask).getMsbD (n - 1) = true := by decide

theorem perm_pc1_of_parity_cleared (key : BitVec 64) :
    (perm 56 pc1 (key &&& ~~~parityMask) : BitVec 56) = perm 56 pc1 key :=
  perm_congr fun n hn => by rw [BitVec.getMsbD_and, pc1_avoids_parity n hn, Bool.and_true]

theorem c0_of_parity_cleared (key : BitVec 64) : c0 (key &&& ~~~parityMask) = c0 key := by
  rw [c0, c0, perm_pc1_of_parity_cleared]

theorem d0_of_parity_cleared (key : BitVec 64) : d0 (key &&& ~~~parityMask) = d0 key := by
  rw [d0, d0, perm_pc1_of_parity_cleared]

/-- Keys that agree outside the parity positions have one schedule (R131, R139). -/
theorem schedule_of_equal_outside_parity {key key' : BitVec 64}
    (agree : key &&& ~~~parityMask = key' &&& ~~~parityMask) : schedule key = schedule key' := by
  apply schedule_of_halves
  · rw [← c0_of_parity_cleared key, agree, c0_of_parity_cleared]
  · rw [← d0_of_parity_cleared key, agree, d0_of_parity_cleared]

/-! ## The keys of R138 -/

theorem schedule_zeros_getElem (i : Fin 16) : (schedule 0x0000000000000000)[i] = ⟨0x000000, 0x000000⟩ := by
  have halves : c0 0x0000000000000000 = 0 ∧ d0 0x0000000000000000 = 0 := by decide +kernel
  rw [schedule_getElem_of_constant halves (.inl rfl) (.inl rfl)]
  decide

theorem schedule_ones_getElem (i : Fin 16) : (schedule 0xFFFFFFFFFFFFFFFF)[i] = ⟨0xFFFFFF, 0xFFFFFF⟩ := by
  have halves : c0 0xFFFFFFFFFFFFFFFF = 0xFFFFFFF ∧ d0 0xFFFFFFFFFFFFFFFF = 0xFFFFFFF := by decide +kernel
  rw [schedule_getElem_of_constant halves (.inr rfl) (.inr rfl)]
  decide

theorem schedule_zeros_ones_getElem (i : Fin 16) : (schedule 0x1F1F1F1F0E0E0E0E)[i] = ⟨0x000000, 0xFFFFFF⟩ := by
  have halves : c0 0x1F1F1F1F0E0E0E0E = 0 ∧ d0 0x1F1F1F1F0E0E0E0E = 0xFFFFFFF := by decide +kernel
  rw [schedule_getElem_of_constant halves (.inl rfl) (.inr rfl)]
  decide

/-- The key of the parity bits alone is scheduled as the zero key. -/
theorem schedule_parityMask : schedule 0x0101010101010101 = schedule 0x0000000000000000 :=
  schedule_of_equal_outside_parity (by decide)

/-- The key of all bits but the parity bits is scheduled as the key of ones. -/
theorem schedule_not_parityMask : schedule 0xFEFEFEFEFEFEFEFE = schedule 0xFFFFFFFFFFFFFFFF :=
  schedule_of_equal_outside_parity (by decide)

/-! ## The statements -/

/-- Settles O18: the effect of KSCHED is the schedule, entry by entry; the word is the encoder's, and its form has no
operand bit. -/
theorem kschedBuildsTheSchedule : Obligations.KschedBuildsTheSchedule := by
  refine ⟨fun s => ⟨_, exec_eq_effect .ksched s, rfl, fun i => ?entry⟩, decode_encode .ksched,
    fun w lat s opc nonzero idle => ?illegal⟩
  case entry =>
    have sameEntry : (effect .ksched s).complete.ek[i] = subKey (c0 s.operands.key) (d0 s.operands.key) i :=
      schedule_getElem s.operands.key i
    rw [sameEntry, ← cum_eq_cumTable i i.isLt]
    exact subKeyOf_append _ _
  case illegal =>
    have allBits : opndOf (rowMask .ksched) = BitVec.allOnes 24 := rfl
    exact hostWrite_cmd_mustBeZero .ksched opc (by rwa [allBits, BitVec.and_allOnes]) idle lat

/-- Settles O19: KSCHED writes the schedule of the key, which has no use for the parity bits. -/
theorem kschedDependsOnTheKeyAlone : Obligations.KschedDependsOnTheKeyAlone := fun s s' agree =>
  ⟨_, _, exec_eq_effect .ksched s, exec_eq_effect .ksched s', schedule_of_equal_outside_parity agree⟩

/-- Settles O21: up to parity bits the five keys have constant halves, which a rotation leaves as they are. -/
theorem specialKeySchedules : Obligations.SpecialKeySchedules := by
  refine ⟨fun i => ⟨schedule_zeros_getElem i, ?parity, ?notParity, schedule_ones_getElem i,
    schedule_zeros_ones_getElem i⟩, fun key hc hd i j => ?equal⟩
  case parity => exact (congrArg (·[i]) schedule_parityMask).trans (schedule_zeros_getElem i)
  case notParity => exact (congrArg (·[i]) schedule_not_parityMask).trans (schedule_ones_getElem i)
  case equal =>
    calc (schedule key)[i]
        = subKeyOf (c0 key) (d0 key) := schedule_getElem_of_constant ⟨rfl, rfl⟩ hc hd i
      _ = (schedule key)[j] := (schedule_getElem_of_constant ⟨rfl, rfl⟩ hc hd j).symm

end Sys2Proof.Machine

/-! Tables and fields (R9): what a table makes of a run of entries, of another table's output and of an OR; and a field
of a word, masked and shifted or put together with others. -/

namespace Sys2Proof.Machine

/-! ## Tables -/

/-- A run of consecutive entries takes a field as it stands. -/
theorem perm_range' {w start n : Nat} (v : BitVec w) (low : 1 ≤ start) (high : start + n ≤ w + 1) :
    perm n (List.range' start n) v = v.extractLsb' (w + 1 - start - n) n := by
  apply BitVec.eq_of_getMsbD_eq
  intro k hk
  have within : w + 1 - start - n + n - k ≤ w := by omega
  have place : w - (w + 1 - start - n + n - k) = start + k - 1 := by omega
  simp [perm_getMsbD _ _ List.length_range', BitVec.getMsbD_extractLsb', hk, within, place]

/-- The entries 1 to w in order change nothing. -/
theorem perm_identity {w : Nat} (v : BitVec w) : perm w (List.range' 1 w) v = v := by
  rw [perm_range' v (Nat.le_refl 1) (by omega), Nat.add_sub_cancel, Nat.sub_self]
  exact BitVec.extractLsb'_eq_self

/-- A table's output is the list of bits it reads. -/
theorem perm_of_same_bits {w w' m : Nat} {t u : List Nat} {v : BitVec w} {v' : BitVec w'}
    (same : t.map (fun n => v.getMsbD (n - 1)) = u.map fun n => v'.getMsbD (n - 1)) : perm m t v = perm m u v' := by
  rw [perm, perm, same]

/-- A table that reads another one's output reads the bits that the other one's entries name. -/
theorem perm_perm {w a b : Nat} (t u : List Nat) (v : BitVec w) (hu : u.length = a)
    (inOutput : ∀ n ∈ t, n - 1 < a) :
    perm b t (perm a u v) = perm b (t.map fun n => u.getD (n - 1) 0) v := by
  apply perm_of_same_bits
  rw [List.map_map]
  apply List.map_congr_left
  intro n hn
  have inTable : n - 1 < u.length := hu ▸ inOutput n hn
  simp [perm_getMsbD u v hu, inTable]

theorem perm_zero {w m : Nat} (table : List Nat) (h : table.length = m) : perm m table 0#w = 0#m := by
  apply BitVec.eq_of_getMsbD_eq
  intro k hk
  simp [perm_getMsbD _ _ h, h, hk]

theorem perm_or {w m : Nat} (table : List Nat) (x y : BitVec w) (h : table.length = m) :
    perm m table (x ||| y) = perm m table x ||| perm m table y := by
  apply BitVec.eq_of_getMsbD_eq
  intro k hk
  simp [perm_getMsbD _ _ h, h, hk]

/-! ## Fields of a word -/

/-- Two fields put together, in a wider value, are the OR of each at its place. -/
theorem setWidth_append_eq_or {m n : Nat} (w : Nat) (x : BitVec m) (y : BitVec n) :
    (x ++ y).setWidth w = (x.setWidth w <<< n) ||| y.setWidth w := by
  apply BitVec.eq_of_getLsbD_eq
  intro i hi
  rw [BitVec.getLsbD_setWidth, BitVec.getLsbD_append]
  by_cases low : i < n
  · simp [hi, low]
  · simp [hi, low, BitVec.getLsbD_of_ge y i (Nat.le_of_not_lt low)]

/-- A mask of consecutive ones cuts out a field and leaves it at its place. -/
theorem and_ones_eq_extractLsb' {w : Nat} (r : BitVec w) (start len : Nat) :
    r &&& ((BitVec.allOnes len).setWidth w <<< start) = (r.extractLsb' start len).setWidth w <<< start := by
  apply BitVec.eq_of_getLsbD_eq
  intro i hi
  by_cases low : i < start
  · simp [low]
  · have shift : start + (i - start) = i := by omega
    by_cases inField : i - start < len <;> simp [hi, low, shift, inField]

section
variable {w k : Nat} (r mask : BitVec w) (start len : Nat) (ones : mask = (BitVec.allOnes len).setWidth w <<< start)
include ones

theorem and_shiftLeft_eq_extractLsb' :
    (r &&& mask) <<< k = (r.extractLsb' start len).setWidth w <<< (start + k) := by
  rw [ones, and_ones_eq_extractLsb', BitVec.shiftLeft_add]

theorem and_ushiftRight_eq_extractLsb' (right : k ≤ start) (inWord : start + len ≤ w) :
    (r &&& mask) >>> k = (r.extractLsb' start len).setWidth w <<< (start - k) := by
  rw [ones, and_ones_eq_extractLsb']
  apply BitVec.eq_of_getLsbD_eq
  intro i hi
  by_cases below : i < start - k
  · have cut : k + i < start := by omega
    simp [below, cut]
  · have cut : ¬ k + i < start := by omega
    have place : k + i - start = i - (start - k) := by omega
    by_cases inField : i - (start - k) < len
    · have fits : k + i < w := by omega
      simp [hi, below, cut, place, inField, fits]
    · simp [below, place, inField]

end

end Sys2Proof.Machine

/-! The round function (R153 to R157): E's table is made of runs of consecutive bits, a mask bit exchanges two bits, and
P goes over the OR of the eight S-box outputs. -/

namespace Sys2Proof.Machine

/-! ## The E-box (R153) -/

theorem perm_eTable_eq_append (r : Word) :
    (perm 48 eTable r : BitVec 48) = (perm 24 (eTable.take 24) r : Half24) ++ (perm 24 (eTable.drop 24) r : Half24) :=
  perm_append (eTable.take 24) (eTable.drop 24) r rfl rfl

/-- E's first rows are five runs of consecutive bits, the first of them DES bit 32 alone. -/
theorem eLeft_eq_append (r : Word) :
    eLeft r = r.extractLsb' 0 1 ++ r.extractLsb' 27 5 ++ r.extractLsb' 23 6 ++ r.extractLsb' 19 6
      ++ r.extractLsb' 15 6 := by
  have half : eLeft r = perm 24 (eTable.take 24) r := by
    rw [eLeft, perm_eTable_eq_append]
    exact BitVec.extractLsb'_append_eq_left
  have runs : eTable.take 24 = List.range' 32 1 ++ List.range' 1 5 ++ List.range' 4 6 ++ List.range' 8 6
      ++ List.range' 12 6 := rfl
  rw [half, runs, perm_append (a := 18) (b := 6) _ _ _ rfl rfl, perm_append (a := 12) (b := 6) _ _ _ rfl rfl,
    perm_append (a := 6) (b := 6) _ _ _ rfl rfl, perm_append (a := 1) (b := 5) _ _ _ rfl rfl]
  simp (disch := decide) only [perm_range']

/-- E's last rows are five runs of consecutive bits, the last of them DES bit 1 alone. -/
theorem eRight_eq_append (r : Word) :
    eRight r = r.extractLsb' 11 6 ++ r.extractLsb' 7 6 ++ r.extractLsb' 3 6 ++ r.extractLsb' 0 5
      ++ r.extractLsb' 31 1 := by
  have half : eRight r = perm 24 (eTable.drop 24) r := by
    rw [eRight, perm_eTable_eq_append]
    exact BitVec.extractLsb'_append_eq_right
  have runs : eTable.drop 24 = List.range' 16 6 ++ List.range' 20 6 ++ List.range' 24 6 ++ List.range' 28 5
      ++ List.range' 1 1 := rfl
  rw [half, runs, perm_append (a := 23) (b := 1) _ _ _ rfl rfl, perm_append (a := 18) (b := 5) _ _ _ rfl rfl,
    perm_append (a := 12) (b := 6) _ _ _ rfl rfl, perm_append (a := 6) (b := 6) _ _ _ rfl rfl]
  simp (disch := decide) only [perm_range']

/-- Settles O31: a masked and shifted word is a field at its place, and the fields are the runs of E's table, put
together. -/
theorem eBoxByShiftsAndMasks : Obligations.EBoxByShiftsAndMasks := by
  intro r
  constructor
  · rw [eLeft_eq_append, and_shiftLeft_eq_extractLsb' r 0x00000001 0 1 rfl,
      and_ushiftRight_eq_extractLsb' r 0xF8000000 27 5 rfl (by decide) (by decide),
      and_ushiftRight_eq_extractLsb' r 0x1F800000 23 6 rfl (by decide) (by decide),
      and_ushiftRight_eq_extractLsb' r 0x01F80000 19 6 rfl (by decide) (by decide),
      and_ushiftRight_eq_extractLsb' r 0x001F8000 15 6 rfl (by decide) (by decide)]
    simp only [setWidth_append_eq_or, BitVec.shiftLeft_or_distrib, ← BitVec.shiftLeft_add]
    simp only [Nat.reduceAdd, Nat.reduceSub, BitVec.shiftLeft_zero]
  · rw [eRight_eq_append, and_shiftLeft_eq_extractLsb' r 0x0001F800 11 6 rfl,
      and_shiftLeft_eq_extractLsb' r 0x00001F80 7 6 rfl, and_shiftLeft_eq_extractLsb' r 0x000001F8 3 6 rfl,
      and_shiftLeft_eq_extractLsb' r 0x0000001F 0 5 rfl,
      and_ushiftRight_eq_extractLsb' r 0x80000000 31 1 rfl (by decide) (by decide)]
    simp only [setWidth_append_eq_or, BitVec.shiftLeft_or_distrib, ← BitVec.shiftLeft_add]
    simp only [Nat.reduceAdd, Nat.reduceSub, BitVec.shiftLeft_zero]

/-! ## Salting (R154) -/

/-- The exchange that a mask bit selects: XOR with the masked difference turns one half's bit into the other's. -/
theorem xor_masked_xor (x y m : Bool) : (x ^^ ((x ^^ y) && m)) = if m then y else x := by
  cases m <;> simp

/-- With mask 0 salting exchanges nothing. -/
theorem mix_zero (a b : Half24) (k : SubKey) : mix a b k 0 = (a ++ b) ^^^ (k.l ++ k.r) := by
  simp only [mix, BitVec.ofNat_eq_ofNat, BitVec.and_zero, BitVec.xor_zero]
  exact BitVec.xor_append.symm

/-- Settles O30: the two halves of `mix` are the formula's, and one bit of the formula is an exchange. -/
theorem maskExchangesHalfBits : Obligations.MaskExchangesHalfBits := by
  refine ⟨fun a b k m => ⟨BitVec.extractLsb'_append_eq_left, BitVec.extractLsb'_append_eq_right⟩,
    fun a b k m j hj => ⟨?left, ?right⟩, mix_zero⟩
  case left =>
    rw [mix, BitVec.getLsbD_append, ← xor_masked_xor]
    simp
  case right =>
    rw [mix, BitVec.getLsbD_append, ← xor_masked_xor, Bool.xor_comm (b.getLsbD j) (a.getLsbD j)]
    simp [hj]

/-! ## S-boxes and P-box (R155 to R157) -/

theorem sBoxes_eq_groups (x : BitVec 48) :
    sBoxes x = sEntry s1 (group x 1) ++ sEntry s2 (group x 2) ++ sEntry s3 (group x 3) ++ sEntry s4 (group x 4)
      ++ sEntry s5 (group x 5) ++ sEntry s6 (group x 6) ++ sEntry s7 (group x 7) ++ sEntry s8 (group x 8) := rfl

/-- Eight 4-bit values put together are the OR of each at its place in the word. -/
theorem append8_eq_or (x1 x2 x3 x4 x5 x6 x7 x8 : BitVec 4) :
    (x1 ++ x2 ++ x3 ++ x4 ++ x5 ++ x6 ++ x7 ++ x8 : Word)
      = x1.setWidth 32 <<< 28 ||| x2.setWidth 32 <<< 24 ||| x3.setWidth 32 <<< 20 ||| x4.setWidth 32 <<< 16
        ||| x5.setWidth 32 <<< 12 ||| x6.setWidth 32 <<< 8 ||| x7.setWidth 32 <<< 4 ||| x8.setWidth 32 <<< 0 := by
  rw [← BitVec.setWidth_eq (x1 ++ x2 ++ x3 ++ x4 ++ x5 ++ x6 ++ x7 ++ x8)]
  simp only [setWidth_append_eq_or, BitVec.shiftLeft_or_distrib, ← BitVec.shiftLeft_add, BitVec.shiftLeft_zero]

/-- P of the S-boxes is the OR of the eight combined tables (R157). -/
theorem perm_sBoxes_eq_or (x : BitVec 48) :
    perm 32 pTable (sBoxes x)
      = combinedTable s1 1 (group x 1) ||| combinedTable s2 2 (group x 2) ||| combinedTable s3 3 (group x 3)
        ||| combinedTable s4 4 (group x 4) ||| combinedTable s5 5 (group x 5) ||| combinedTable s6 6 (group x 6)
        ||| combinedTable s7 7 (group x 7) ||| combinedTable s8 8 (group x 8) := by
  rw [sBoxes_eq_groups, append8_eq_or]
  simp only [perm_or (m := 32) pTable _ _ rfl, combinedTable]

/-- Settles O32: F is the pseudocode as it stands, and P, which moves every bit by itself, goes over the OR of the eight
placed S-box outputs. -/
theorem roundFunctionByCombinedTables : Obligations.RoundFunctionByCombinedTables :=
  fun r k m => ⟨rfl, perm_sBoxes_eq_or (mix (eLeft r) (eRight r) k m)⟩

end Sys2Proof.Machine

/-! IP, FP and the passes (R151, R158, R159): FP and IP undo each other, a pass is 16 indexed steps, and the steps in
reverse order undo a pass. -/

namespace Sys2Proof.Machine

/-! ## IP and FP (R151, R159) -/

theorem perm_fp_perm_ip (v : BitVec 64) : (perm 64 fp (perm 64 ip v : BitVec 64) : BitVec 64) = v := by
  have inverse : fp.map (fun n => ip.getD (n - 1) 0) = List.range' 1 64 := by decide
  rw [perm_perm (a := 64) fp ip v rfl (by decide), inverse, perm_identity]

theorem perm_ip_perm_fp (v : BitVec 64) : (perm 64 ip (perm 64 fp v : BitVec 64) : BitVec 64) = v := by
  have inverse : ip.map (fun n => fp.getD (n - 1) 0) = List.range' 1 64 := by decide
  rw [perm_perm (a := 64) ip fp v rfl (by decide), inverse, perm_identity]

theorem initial_zero : initial 0 = ⟨0, 0⟩ := by
  have zero : (perm 64 ip (0 : BitVec 64) : BitVec 64) = 0 := perm_zero ip rfl
  rw [initial, zero]
  rfl

/-- Settles O29: composed, the two tables are the entries 1 to 64 in order; a table of the zero block reads zeros. -/
theorem finalPermutationInvertsInitial : Obligations.FinalPermutationInvertsInitial :=
  ⟨perm_fp_perm_ip, perm_ip_perm_fp, initial_zero⟩

@[simp] theorem final_initial (v : BitVec 64) : final (initial v) = v := by
  rw [final, initial, block_of_halves, perm_fp_perm_ip]

@[simp] theorem initial_final (h : Halves) : initial (final h) = h := by
  rw [initial, final, perm_ip_perm_fp, upper_of_append, lower_of_append]

/-! ## Passes (R158) -/

theorem passes_eq_iterate (ek : ExpandedKey) (m : Half24) (n : Nat) (h : Halves) :
    passes ek m n h = (pass ek m)^[n] h := by
  induction n generalizing h with
  | zero => rfl
  | succ n ih => exact ih (pass ek m h)

/-- The list of subkeys is the entries by index. -/
theorem toList_eq_map_finRange {α : Type} {n : Nat} (v : Vector α n) : v.toList = (List.finRange n).map (v[·]) := by
  rw [← List.ofFn_eq_map, ← Vector.toList_ofFn]
  exact congrArg Vector.toList Vector.ofFn_getElem.symm

theorem passByIndex_eq_pass (ek : ExpandedKey) (m : Half24) : passByIndex ek m = pass ek m := by
  funext h
  rw [pass, toList_eq_map_finRange, List.foldl_map]
  rfl

theorem desRun_zero (ek : ExpandedKey) (m : Half24) (v : BitVec 64) : desRun ek m 0 v = v :=
  final_initial v

/-- Between the two runs FP and IP cancel (R162). -/
theorem desRun_add (ek : ExpandedKey) (m : Half24) (a b : Nat) (v : BitVec 64) :
    desRun ek m (a + b) v = desRun ek m b (desRun ek m a v) := by
  rw [desRun, desRun, desRun, initial_final, passes_add]

/-! ## A pass undone -/

/-- The exchange of a block's halves. -/
def Halves.swap (h : Halves) : Halves := ⟨h.r, h.l⟩

theorem Halves.swap_swap (h : Halves) : h.swap.swap = h := rfl

/-- A step between two exchanges undoes the step: F is XORed twice. -/
theorem swap_step_swap_step (m : Half24) (h : Halves) (k : SubKey) :
    (feistelStep m (feistelStep m h k).swap k).swap = h := by
  simp [feistelStep, Halves.swap]

/-- The steps in reverse order, between two exchanges, undo the steps. -/
theorem foldl_reverse_swap_foldl (m : Half24) (ks : List SubKey) (h : Halves) :
    (ks.reverse.foldl (feistelStep m) (ks.foldl (feistelStep m) h).swap).swap = h := by
  induction ks generalizing h with
  | nil => rfl
  | cons k ks ih =>
    rw [List.reverse_cons, List.foldl_append, List.foldl_cons, List.foldl_cons, List.foldl_nil]
    have undone := congrArg Halves.swap (ih (feistelStep m h k))
    rw [Halves.swap_swap] at undone
    rw [undone, swap_step_swap_step]

/-- A pass whose subkeys read the same backwards is its own inverse. -/
theorem pass_involutive {ek : ExpandedKey} (palindrome : ek.toList.reverse = ek.toList) (m : Half24) :
    Function.Involutive (pass ek m) := by
  intro h
  have undone := foldl_reverse_swap_foldl m ek.toList h
  rwa [palindrome] at undone

theorem reverse_toList_of_equal {ek : ExpandedKey} (equal : ∀ i j : Fin 16, ek[i] = ek[j]) :
    ek.toList.reverse = ek.toList := by
  have constant : ek.toList = List.replicate 16 ek[(0 : Fin 16)] := by
    rw [toList_eq_map_finRange]
    simp [fun i => equal i 0]
  rw [constant, List.reverse_replicate]

/-- Settles O28: 16 equal subkeys read the same backwards, so a pass undoes itself. -/
theorem equalSubkeysMakeTwoPassesTheIdentity : Obligations.EqualSubkeysMakeTwoPassesTheIdentity := by
  intro ek m v equal
  have involutive := pass_involutive (reverse_toList_of_equal equal) m
  have even : (pass ek m)^[2] = id := involutive.iterate_even (by decide)
  have odd : (pass ek m)^[25] = (pass ek m)^[1] := involutive.iterate_odd (by decide)
  simp only [desRun, passes_eq_iterate, even, odd, id_eq, final_initial, and_self]

end Sys2Proof.Machine

/-! Complementation (R164): the tables, the schedule and a Feistel step commute with the complement, since a table moves
bits and the complement of both halves leaves their difference, and so F, as it is. -/

namespace Sys2Proof.Machine

/-- Both halves of a subkey complemented. -/
def SubKey.complement (k : SubKey) : SubKey := ⟨~~~k.l, ~~~k.r⟩

/-- Both halves of a block complemented. -/
def Halves.complement (h : Halves) : Halves := ⟨~~~h.l, ~~~h.r⟩

theorem extractLsb'_not {w : Nat} (x : BitVec w) {start len : Nat} (h : start + len ≤ w) :
    (~~~x).extractLsb' start len = ~~~(x.extractLsb' start len) := by
  apply BitVec.eq_of_getLsbD_eq
  intro i hi
  have inWord : start + i < w := by omega
  simp [hi, inWord]

/-- A part of a table's output commutes with the complement. -/
theorem extractLsb'_perm_not {w m : Nat} (table : List Nat) (v : BitVec w) (h : table.length = m)
    (hT : ∀ n ∈ table, 1 ≤ n ∧ n ≤ w) {start len : Nat} (inOutput : start + len ≤ m) :
    (perm m table (~~~v)).extractLsb' start len = ~~~((perm m table v).extractLsb' start len) := by
  rw [perm_not table v h hT, extractLsb'_not _ inOutput]

theorem eLeft_not (r : Word) : eLeft (~~~r) = ~~~(eLeft r) :=
  extractLsb'_perm_not eTable r rfl (by decide) (by decide)

theorem eRight_not (r : Word) : eRight (~~~r) = ~~~(eRight r) :=
  extractLsb'_perm_not eTable r rfl (by decide) (by decide)

theorem not_xor_not {w : Nat} (x y : BitVec w) : ~~~x ^^^ ~~~y = x ^^^ y := by
  rw [← BitVec.not_xor_left, ← BitVec.not_xor_right, BitVec.not_not]

/-- Complemented halves differ where the halves do, so the mask exchanges the same bits, and a complemented subkey
complements the halves back (R164). -/
theorem mix_not (a b : Half24) (k : SubKey) (m : Half24) : mix (~~~a) (~~~b) k.complement m = mix a b k m := by
  rw [mix, mix, SubKey.complement, not_xor_not a b, ← BitVec.not_xor_left, not_xor_not, ← BitVec.not_xor_left,
    not_xor_not]

/-- F does not see the complement of its input under a complemented subkey (R164). -/
theorem roundF_not (r : Word) (k : SubKey) (m : Half24) : roundF (~~~r) k.complement m = roundF r k m := by
  rw [roundF, roundF, eLeft_not, eRight_not, mix_not]

theorem feistelStep_complement (m : Half24) (h : Halves) (k : SubKey) :
    feistelStep m h.complement k.complement = (feistelStep m h k).complement := by
  rw [feistelStep, feistelStep, Halves.complement, roundF_not, ← BitVec.not_xor_left]
  rfl

theorem pass_complement (ek : ExpandedKey) (m : Half24) (h : Halves) :
    pass (ek.map SubKey.complement) m h.complement = (pass ek m h).complement := by
  have steps : (ek.toList.map SubKey.complement).foldl (feistelStep m) h.complement
      = (ek.toList.foldl (feistelStep m) h).complement := by
    rw [List.foldl_map]
    exact List.foldl_hom Halves.complement (feistelStep_complement m)
  rw [pass, Vector.toList_map, steps]
  rfl

theorem passes_complement (ek : ExpandedKey) (m : Half24) (n : Nat) (h : Halves) :
    passes (ek.map SubKey.complement) m n h.complement = (passes ek m n h).complement := by
  induction n generalizing h with
  | zero => rfl
  | succ n ih => rw [passes, passes, pass_complement, ih]

theorem initial_not (v : BitVec 64) : initial (~~~v) = (initial v).complement :=
  congrArg₂ Halves.mk (extractLsb'_perm_not ip v rfl (by decide) (by decide))
    (extractLsb'_perm_not ip v rfl (by decide) (by decide))

theorem final_complement (h : Halves) : final h.complement = ~~~(final h) := by
  rw [final, Halves.complement, ← BitVec.not_append]
  exact perm_not fp _ rfl (by decide)

theorem desRun_not (ek : ExpandedKey) (m : Half24) (n : Nat) (v : BitVec 64) :
    desRun (ek.map SubKey.complement) m n (~~~v) = ~~~(desRun ek m n v) := by
  rw [desRun, desRun, initial_not, passes_complement, final_complement]

theorem c0_not (key : BitVec 64) : c0 (~~~key) = ~~~(c0 key) :=
  extractLsb'_perm_not pc1 key rfl (by decide) (by decide)

theorem d0_not (key : BitVec 64) : d0 (~~~key) = ~~~(d0 key) :=
  extractLsb'_perm_not pc1 key rfl (by decide) (by decide)

theorem rol28_not (x : BitVec 28) {n : Nat} (h : n ≤ 28) : rol28 (~~~x) n = ~~~(rol28 x n) := by
  apply BitVec.eq_of_getMsbD_eq
  intro k hk
  have inHalf : (n + k) % 28 < 28 := Nat.mod_lt _ (by decide)
  simp [rol28_getMsbD _ h hk, hk, inHalf]

theorem subKeyOf_not (c d : BitVec 28) : subKeyOf (~~~c) (~~~d) = (subKeyOf c d).complement := by
  rw [subKeyOf, ← BitVec.not_append]
  exact congrArg₂ SubKey.mk (extractLsb'_perm_not pc2 _ rfl (by decide) (by decide))
    (extractLsb'_perm_not pc2 _ rfl (by decide) (by decide))

/-- The complemented key has the complemented subkeys (R164). -/
theorem schedule_not (key : BitVec 64) : schedule (~~~key) = (schedule key).map SubKey.complement := by
  apply Vector.ext
  intro i hi
  rw [Vector.getElem_map]
  calc (schedule (~~~key))[i]
      = subKey (c0 (~~~key)) (d0 (~~~key)) i := schedule_getElem _ ⟨i, hi⟩
    _ = (subKey (c0 key) (d0 key) i).complement := by
      rw [subKey, subKey, c0_not, d0_not, rol28_not _ (cum_le i), rol28_not _ (cum_le i), subKeyOf_not]
    _ = (schedule key)[i].complement := congrArg _ (schedule_getElem key ⟨i, hi⟩).symm

end Sys2Proof.Machine

/-! DESRUN on a state (R150, R160 to R165): DOUT takes the block of the operands, so the laws of `desRun` are those of
the command. -/

namespace Sys2Proof.Machine

/-- The block that DESRUN computes from the registers it reads (R150). -/
def Operands.block (o : Operands) : BitVec 64 := desRun o.ek o.smask o.count.toNat o.din

/-- DOUT written with the halves of a 64-bit block (R150). -/
def State.setBlock (s : State) (y : BitVec 64) : State := s.setDout (y.extractLsb' 32 32) (y.extractLsb' 0 32)

theorem exec_desrun {s : State} (key : s.operands.kv = true) :
    exec .desrun s = .next (s.setBlock s.operands.block).complete := by
  rw [exec_eq_effect, effect, if_pos key]
  rfl

theorem exec_desrun_of_idle {s : State} (idle : s.pending = none) (key : s.kv = true) :
    exec .desrun s = .next (s.setBlock s.live.block).complete := by
  rw [← State.operands_of_idle s idle]
  exact exec_desrun (by rwa [State.operands_of_idle s idle])

/-- A word of a command without operand whose operand field is not 0 only records ILLEGAL_CMD (R73, R75). -/
theorem hostWrite_cmd_nonzeroOperand (i : Instr) (noOperand : opndOf (rowMask i) = BitVec.allOnes 24) {w : Word}
    {s : State} (opc : opcOf w = opcode i) (nonzero : opndOf w ≠ 0) (idle : s.pending = none) (lat : Nat) :
    hostWrite (wordAt 0x04) w lat s
      = .next { s with err := true, errCode := if s.err then s.errCode else .illegalCmd } :=
  hostWrite_cmd_mustBeZero i opc (by rwa [noOperand, BitVec.and_allOnes]) idle lat

theorem hostWrite_desrun_noKey {s : State} {w : Word} (idle : s.pending = none) (noKey : s.kv = false)
    (legal : decode w = .ok .desrun) (lat : Nat) :
    hostWrite (wordAt 0x04) w lat s = .next (s.raiseError .noKey) :=
  (hostWrite_cmd_of_idle idle).trans (command_noKey legal idle noKey lat)

/-- Settles O24: the error record is all that a DESRUN without a key changes, whatever its latency. -/
theorem desrunWithoutKeyRaisesNoKey : Obligations.DesrunWithoutKeyRaisesNoKey := by
  intro s w lat idle noKey legal
  refine ⟨_, hostWrite_desrun_noKey idle noKey legal lat, rfl, rfl, rfl, ?notBusy⟩
  case notBusy =>
    obtain ⟨busy, _⟩ := status_flag_bits (s.raiseError .noKey)
    rw [busy]
    exact (State.busy_eq_false_iff _).mpr idle

/-- Settles O23: the pass by index is the model's pass, and `passes` iterates it; the errors are those of a command
without operand and of a DESRUN without a key. -/
theorem desrunRunsCountPasses : Obligations.DesrunRunsCountPasses := by
  refine ⟨fun s key => ?runs, decode_encode .desrun,
    fun w lat s opc nonzero idle => hostWrite_cmd_nonzeroOperand .desrun rfl opc nonzero idle lat,
    fun lat s noKey idle => hostWrite_desrun_noKey idle noKey (decode_encode .desrun) lat⟩
  case runs =>
    simp only [passByIndex_eq_pass, ← passes_eq_iterate]
    exact exec_desrun key

/-- Settles O25: with no pass between them FP undoes IP. -/
theorem desrunOfZeroPassesCopiesTheBlock : Obligations.DesrunOfZeroPassesCopiesTheBlock := by
  intro s key zero
  have copied : s.operands.block = s.operands.dinL ++ s.operands.dinR := by
    rw [Operands.block, zero]
    exact desRun_zero _ _ _
  rw [exec_desrun key, copied, State.setBlock, upper_of_append, lower_of_append]
  rfl

/-- The block of COUNT = a + b is that of COUNT = b on the block of COUNT = a (R162). -/
theorem Operands.block_add (o : Operands) {a b : Word} (noOverflow : a.toNat + b.toNat < 2 ^ 32) :
    { o with count := a + b }.block
      = { o with
          dinL := { o with count := a }.block.extractLsb' 32 32
          dinR := { o with count := a }.block.extractLsb' 0 32
          count := b }.block := by
  simp only [block, din, block_of_halves, BitVec.toNat_add_of_lt noOverflow, desRun_add]

/-- Settles O26: the block of the longer run is the block of the two runs, one after the other. -/
theorem desrunComposes : Obligations.DesrunComposes := by
  intro s a b idle key noOverflow
  have composed := s.live.block_add noOverflow
  exact ⟨_, _, _, exec_desrun_of_idle idle key, exec_desrun_of_idle idle key, exec_desrun_of_idle rfl key,
    congrArg (·.extractLsb' 32 32) composed, congrArg (·.extractLsb' 0 32) composed⟩

/-- The state with the key and the input block complemented (R164). -/
def State.complementInputs (s : State) : State :=
  { s with keyHi := ~~~s.keyHi, keyLo := ~~~s.keyLo, dinL := ~~~s.dinL, dinR := ~~~s.dinR }

theorem key_complementInputs {s : State} (idle : s.pending = none) :
    s.complementInputs.operands.key = ~~~s.operands.key := by
  rw [State.operands_of_idle s idle, State.operands_of_idle s.complementInputs idle]
  exact BitVec.not_append.symm

/-- After KSCHED of the complemented key DESRUN has the complemented block to write. -/
theorem block_ksched_complementInputs {s : State} (idle : s.pending = none) :
    (effect .ksched s.complementInputs).complete.live.block = ~~~(effect .ksched s).complete.live.block := by
  change desRun (schedule s.complementInputs.operands.key) s.smask s.count.toNat (~~~s.dinL ++ ~~~s.dinR)
    = ~~~(desRun (schedule s.operands.key) s.smask s.count.toNat (s.dinL ++ s.dinR))
  rw [key_complementInputs idle, schedule_not, ← BitVec.not_append]
  exact desRun_not _ _ _ _

/-- Settles O27: KSCHED of the complemented key complements every subkey, and so every half of every step. -/
theorem desrunKeepsComplementation : Obligations.DesrunKeepsComplementation := by
  intro s idle
  have complemented := block_ksched_complementInputs idle
  refine ⟨_, _, _, _, exec_eq_effect .ksched s, exec_desrun_of_idle rfl rfl,
    exec_eq_effect .ksched s.complementInputs, exec_desrun_of_idle rfl rfl, ?left, ?right⟩
  case left => exact (congrArg (·.extractLsb' 32 32) complemented).trans (extractLsb'_not _ (by decide))
  case right => exact (congrArg (·.extractLsb' 0 32) complemented).trans (extractLsb'_not _ (by decide))

/-- Settles O33: the block is computed from the operands alone, and only DOUT takes it. -/
theorem desrunDependsOnItsOperandsAlone : Obligations.DesrunDependsOnItsOperandsAlone := by
  intro s s' key key' dinL dinR count smask ek
  have same : s.operands.block = s'.operands.block := by
    rw [Operands.block, Operands.block, Operands.din, Operands.din, dinL, dinR, count, smask, ek]
  exact ⟨_, _, exec_desrun key, exec_desrun key', congrArg (·.extractLsb' 32 32) same,
    congrArg (·.extractLsb' 0 32) same, rfl⟩

end Sys2Proof.Machine

/-! The control commands on a state (R180, R182, R183): ZEROIZE leaves a reset block but for the error record, so that
nothing of the registers is left. -/

namespace Sys2Proof.Machine

/-- A word write while BUSY = 1 raises BUSY_WRITE, whatever slot it names (R226). -/
theorem hostWrite_of_busy {a : Access} {slot : Slot} {s : State} (busy : s.busy = true) (names : slotAt a = some slot)
    (v : Word) (lat : Nat) : hostWrite a v lat s = .next (s.raiseError .busyWrite) := by
  simp only [hostWrite, names, if_pos busy]

/-- ZEROIZE is a reset that keeps the error record (R182, R221). -/
theorem exec_zeroize (s : State) :
    exec .zeroize s = .next { s.restart with err := s.err, errCode := s.errCode } :=
  exec_eq_effect .zeroize s

theorem zeroEk_getElem (i : Fin 16) : zeroEk[i] = ⟨0, 0⟩ :=
  vector16_getElem (fun _ => (⟨0, 0⟩ : SubKey)) i

/-- With BUSY, OK and KV at 0 STATUS shows the error record alone (R23). -/
theorem status_of_flags_zero {s : State} (busy : s.busy = false) (ok : s.ok = false) (kv : s.kv = false) :
    s.status = ((BitVec.ofBool s.err).setWidth 32 <<< 1) ||| (s.errCode.bits.setWidth 32 <<< 8) := by
  rw [State.status, busy, ok, kv]
  cases s.err <;> cases s.errCode <;> rfl

/-- Settles O36: what ZEROIZE leaves is named by the reset state and the fields the two states agree on. -/
theorem zeroizeForgetsThePreviousHash : Obligations.ZeroizeForgetsThePreviousHash := by
  intro s s' err errCode inputs returned draws
  have same : exec .zeroize s = exec .zeroize s' := by
    simp only [exec_zeroize, State.restart, err, errCode, inputs, returned, draws]
  exact ⟨_, exec_zeroize s, same.symm.trans (exec_zeroize s)⟩

/-- Settles O34: CLRERR's effect is a write of the error record; its form has no operand bit, and a busy block drops its
word before decoding it. -/
theorem clrerrClearsTheErrorRecord : Obligations.ClrerrClearsTheErrorRecord := by
  refine ⟨exec_eq_effect .clrerr, decode_encode .clrerr,
    fun w lat s opc nonzero idle => hostWrite_cmd_nonzeroOperand .clrerr rfl opc nonzero idle lat,
    fun lat s p pending => ?busyWrite⟩
  case busyWrite =>
    have busy := (State.busy_eq_true_iff s).mpr ⟨p, pending⟩
    exact hostWrite_of_busy (slot := .cmd) busy rfl _ lat

/-- Settles O35: what ZEROIZE leaves is a reset block with the error record of before; its form has no operand bit. -/
theorem zeroizeClearsEverythingButErrors : Obligations.ZeroizeClearsEverythingButErrors :=
  ⟨fun s => ⟨_, exec_zeroize s, rfl, zeroEk_getElem, status_of_flags_zero rfl rfl rfl⟩, decode_encode .zeroize,
    fun _ lat _ opc nonzero idle => hostWrite_cmd_nonzeroOperand .zeroize rfl opc nonzero idle lat⟩

end Sys2Proof.Machine

/-! Recording an error (R201 to R205): which code a write to CMD records, that an accepted command records none, and
that a recorded code stays and blocks no command. -/

namespace Sys2Proof.Machine

/-! ## One code for one access -/

/-- Settles O37: with ERR = 0 the code is taken, and whatever `raiseError` changes, it changes from ERR = 0. -/
theorem raiseErrorKeepsTheFirst : Obligations.RaiseErrorKeepsTheFirst := by
  refine ⟨fun s c noError => ?first, fun s c recorded => ?later⟩
  case first => simp [State.raiseError, noError]
  case later =>
    by_contra changed
    obtain ⟨noError, _⟩ := raiseError_changed changed
    exact Bool.false_ne_true (noError.symm.trans recorded)

theorem decode_eq_desrun {w : Word} (opc : opcOf w = 0x03) (zero : opndOf w = 0) : decode w = .ok .desrun :=
  (decode_eq_ok_iff w .desrun).mpr ((encode_eq_iff .desrun w).mpr ⟨opc.symm, zero.symm⟩)

/-- Settles O38: a busy block drops the word before decoding it, and an idle one decodes it before it looks at KV. -/
theorem errorPriority : Obligations.ErrorPriority := by
  obtain ⟨_, _, illegalWord, _⟩ := legalWordsAreThoseDecoded
  refine ⟨fun s p w lat pending => ?busyWrite, fun s w lat idle notLegal => illegalWord w lat s notLegal idle,
    fun s w lat idle noKey opc => ?desrun⟩
  case busyWrite =>
    have busy := (State.busy_eq_true_iff s).mpr ⟨p, pending⟩
    exact hostWrite_of_busy (slot := .cmd) busy rfl w lat
  case desrun =>
    by_cases zero : opndOf w = 0
    · rw [if_pos zero]
      exact hostWrite_desrun_noKey idle noKey (decode_eq_desrun opc zero) lat
    · rw [if_neg zero]
      exact hostWrite_cmd_nonzeroOperand .desrun rfl opc zero idle lat

/-! ## An accepted command records no error -/

theorem not_errorMoved_iff {s t : State} : ¬ ErrorMoved s t ↔ t.err = s.err ∧ t.errCode = s.errCode := by
  simp [ErrorMoved]

/-- Under the invariant a pending DESRUN has captured KV = 1 (R71, R225). -/
theorem pending_desrun_operands_kv {s : State} {p : Pending} (inv : s.Inv) (hp : s.pending = some p)
    (isDesrun : p.instr = .desrun) : s.operands.kv = true := by
  rw [State.operands_of_pending s p hp, inv.opsFixed p hp]
  exact inv.desrunKv p hp isDesrun

/-- Settles O39: of the commands other than CLRERR only a DESRUN without a key moves the error record, and none is
pending without one. -/
theorem acceptedCommandRaisesNoError : Obligations.AcceptedCommandRaisesNoError := by
  intro s p inv hp
  refine ⟨_, exec_eq_effect p.instr s, fun notClrerr => not_errorMoved_iff.mp fun moved => ?kept,
    fun isClrerr => ?cleared⟩
  case kept =>
    obtain isClrerr | ⟨isDesrun, noKey, _⟩ := errorMoved_effect (s := s) moved
    · exact notClrerr isClrerr
    · exact Bool.false_ne_true (noKey.symm.trans (pending_desrun_operands_kv inv hp isDesrun))
  case cleared =>
    rw [isClrerr]
    exact ⟨rfl, rfl⟩

/-! ## A recorded error stays and blocks nothing -/

/-- No command reads the error record: with another record it leaves the same state but for the record. -/
theorem effect_of_errorRecord (i : Instr) (s : State) (e : Bool) (c : ErrCode) :
    ∃ e' c', effect i { s with err := e, errCode := c } = { effect i s with err := e', errCode := c' } := by
  cases i with
  | clrerr => exact ⟨false, .none, rfl⟩
  | desrun =>
    have sameOperands : ({ s with err := e, errCode := c } : State).operands = s.operands := rfl
    simp only [effect, sameOperands]
    split
    · exact ⟨e, c, rfl⟩
    · exact ⟨true, if e then c else .noKey, rfl⟩
  | _ => exact ⟨e, c, rfl⟩

/-- ERR of `t` is 1, and its code is the one recorded in `s` or, from ERR = 0, a code of R201 (R202). -/
def ErrorRaised (s t : State) : Prop :=
  ∃ c, c ≠ .none ∧ t.err = true ∧ t.errCode = if s.err then s.errCode else c

/-- Raising an error of R201 in a state with the error record of `s`. -/
theorem errorRaised_raiseError {s u : State} {c : ErrCode} (code : c ≠ .none) (sameErr : u.err = s.err)
    (sameCode : u.errCode = s.errCode) : ErrorRaised s (u.raiseError c) :=
  ⟨c, code, rfl, by rw [State.raiseError_errCode, sameErr, sameCode]⟩

/-- A command word moves the error record of an idle block by running CLRERR or by raising an error of R201. -/
theorem command_errorRaised {s t : State} {w : Word} {lat : Nat} (h : command w lat s = .next t)
    (moved : ErrorMoved s t) : (lat = 0 ∧ decode w = .ok .clrerr) ∨ ErrorRaised s t := by
  obtain ⟨_, rfl⟩ | ⟨i, legal, now, rfl⟩ | ⟨_, _, _, _, _, _, rfl⟩ | ⟨_, _, _, _, _, rfl⟩ := command_cases h
  · exact .inr (errorRaised_raiseError (by decide) rfl rfl)
  · obtain rfl | ⟨_, _, raised⟩ := errorMoved_effect (s := s) moved
    · exact .inl ⟨now, legal⟩
    · rw [raised]
      exact .inr (errorRaised_raiseError (by decide) rfl rfl)
  · exact .inr (errorRaised_raiseError (by decide) rfl rfl)
  · exact absurd moved (by simp [ErrorMoved])

/-- A step that is no reset and does not run CLRERR moves the error record only by raising an error of R201. -/
theorem step_errorRaised {s t : State} (h : step s = .next t) (notClrerr : s.runs ≠ some .clrerr)
    (notReset : s.acts ≠ some .reset) (moved : ErrorMoved s t) : ErrorRaised s t := by
  obtain ⟨p, hp, wait, rfl⟩ | ⟨p, n, hp, wait, ht⟩ | ⟨idle, ht⟩ := step_cases h
  · obtain isClrerr | ⟨_, _, raised⟩ := errorMoved_effect (s := s) moved
    · exact absurd (isClrerr ▸ runs_of_completion hp wait) notClrerr
    · rw [raised]
      exact errorRaised_raiseError (by decide) rfl rfl
  · obtain ⟨_, _, _, _, _, _, _, ⟨_, rfl⟩ | ⟨idle, _⟩⟩ :=
      hostTurn_errorMoved ht (acts_of_waiting hp wait ▸ notReset) moved
    · exact errorRaised_raiseError (by decide) rfl rfl
    · cases idle
  · obtain ⟨_, _, _, _, _, next, names, ⟨_, rfl⟩ | ⟨_, rfl, result⟩⟩ :=
      hostTurn_errorMoved ht (acts_of_idle idle ▸ notReset) moved
    · exact errorRaised_raiseError (by decide) rfl rfl
    · obtain ⟨rfl, legal⟩ | raised := command_errorRaised result moved
      · exact absurd (runs_of_command idle next names legal) notClrerr
      · exact raised

/-- Settles O40: no command reads the error record, acceptance does not look at it, and what moves it is an error
raised. -/
theorem recordedErrorStaysAndBlocksNothing : Obligations.RecordedErrorStaysAndBlocksNothing := by
  refine ⟨fun i s e c => ?sameEffect, fun i s w n idle legal key => ?accepted,
    fun s t h notClrerr notReset => ?stays⟩
  case sameEffect =>
    obtain ⟨e', c', same⟩ := effect_of_errorRecord i s e c
    refine ⟨_, e', c', exec_eq_effect i s, ?_⟩
    rw [exec_eq_effect, same]
    rfl
  case accepted =>
    rw [hostWrite_cmd_of_idle idle, command_later legal, issue_accepted key]
    rfl
  case stays =>
    by_cases moved : ErrorMoved s t
    · exact .inr (step_errorRaised h notClrerr notReset moved)
    · exact .inl (not_errorMoved_iff.mp moved)

end Sys2Proof.Machine

/-! The reset state (R220, R221), accesses while BUSY = 1 (R226) and completion (R224): one rule each, and the statements
that are a use of them. -/

namespace Sys2Proof.Machine

/-- Settles O51: every field of the reset state is written as its value; the entries of EK are those of `zeroEk`. -/
theorem resetValues : Obligations.ResetValues :=
  ⟨rfl, status_of_flags_zero rfl rfl rfl, rfl, rfl, rfl, rfl, rfl, rfl, rfl, rfl, rfl, rfl, rfl, rfl, rfl, rfl,
    zeroEk_getElem, rfl⟩

/-- Settles O53: the reset state is what a reset leaves of it. -/
theorem invariantHoldsAtReset : Obligations.InvariantHoldsAtReset :=
  inv_restart State.reset

/-- A waiting command stays pending in any turn of the outside other than reset (R221, R226). -/
theorem pending_of_waiting {s t : State} {p : Pending} {n : Nat} (hp : s.pending = some p) (wait : p.wait = n + 1)
    (notReset : s.acts ≠ some .reset) (h : step s = .next t) : t.pending = some { p with wait := n } := by
  rw [acts_of_waiting hp wait] at notReset
  rw [step_of_waiting hp wait] at h
  exact congrArg State.pending (hostTurn_busy (s.tick_busy p n) notReset h)

/-- Settles O52: reset is the outside's turn on an idle block as on a waiting one; no other turn touches the command. -/
theorem resetAbandonsThePendingCommand : Obligations.ResetAbandonsThePendingCommand := by
  refine ⟨fun s rest next notEngine => ?reset, fun s t p n => pending_of_waiting⟩
  case reset =>
    cases hp : s.pending with
    | none => exact step_idle_cons hp next
    | some p =>
      obtain ⟨n, wait⟩ := Nat.exists_eq_succ_of_ne_zero (notEngine p hp)
      exact step_waiting_cons hp wait next

/-! ## Accesses while BUSY = 1 -/

theorem slotAt_wordAt_eq_id_iff : ∀ off : BitVec 6, slotAt (wordAt off) = some .id ↔ off = 0x00 := by
  decide

theorem slotAt_wordAt_eq_status_iff : ∀ off : BitVec 6, slotAt (wordAt off) = some .status ↔ off = 0x08 := by
  decide

/-- A read of a busy block's slot other than ID and STATUS is a draw (R226). -/
theorem hostRead_draw {a : Access} {slot : Slot} {s : State} (busy : s.busy = true) (names : slotAt a = some slot)
    (notId : slot ≠ .id) (notStatus : slot ≠ .status) : hostRead a s = .next s.giveDraw := by
  rw [hostRead, names]
  exact if_pos ⟨busy, notId, notStatus⟩

theorem exists_slotAt_wordAt {off : BitVec 6} (aligned : off.toNat % 4 = 0) :
    ∃ slot, slotAt (wordAt off) = some slot :=
  Option.ne_none_iff_exists'.mp fun noSlot => (slotAt_wordAt_eq_none_iff off).mp noSlot aligned

/-- Settles O43: ID and STATUS have a value now, any other slot is a draw, and a write raises BUSY_WRITE. -/
theorem accessWhileBusy : Obligations.AccessWhileBusy := by
  intro s p hp
  have busy := (State.busy_eq_true_iff s).mpr ⟨p, hp⟩
  obtain ⟨busyBit, _⟩ := status_flag_bits s
  refine ⟨hostRead_of_slot (slot := .id) rfl fun _ => .inl rfl, hostRead_of_slot (slot := .status) rfl fun _ => .inr rfl,
    busyBit.trans busy, fun off aligned notZero notEight => ?draw, fun off v lat aligned => ?write⟩
  case draw =>
    obtain ⟨slot, names⟩ := exists_slotAt_wordAt aligned
    refine hostRead_draw busy names ?_ ?_
    · rintro rfl
      exact notZero ((slotAt_wordAt_eq_id_iff off).mp names)
    · rintro rfl
      exact notEight ((slotAt_wordAt_eq_status_iff off).mp names)
  case write =>
    obtain ⟨slot, names⟩ := exists_slotAt_wordAt aligned
    exact hostWrite_of_busy busy names v lat

/-- Settles O9: the engine's step is the command's effect, which touches no field of the outside; and acceptance fixes
the registers as they stand. -/
theorem completionIsOneStepWhateverTheLatency : Obligations.CompletionIsOneStepWhateverTheLatency := by
  refine ⟨fun s p hp wait => ?completion, fun s i n idle => exec_accept idle i n⟩
  case completion =>
    obtain ⟨inputs, returned, draws, _⟩ := effect_outside p.instr s
    have run := exec_eq_effect p.instr s
    exact ⟨_, (step_of_completion hp wait).trans run, run, rfl, (status_flag_bits _).1, inputs, returned, draws⟩

end Sys2Proof.Machine

/-! What an operation from outside does to an idle block (R51, R52, R71, R221), and a host that keeps the discipline of
R227: what its operations are, how its WAIT polls, and that no step of it meets a hazard (R223). -/

namespace Sys2Proof.Machine

/-! ## An operation from outside -/

theorem slotAt_of_not_subword {a : Access} (answered : (slotAt a).isNone = false) : ∃ slot, slotAt a = some slot :=
  Option.ne_none_iff_exists'.mp fun noSlot => by simp [noSlot] at answered

/-- Every operation but an access that is no aligned word has a next state (R55). -/
theorem hostAct_has_next {op : HostOp} (answered : op.subword = false) (s : State) : ∃ t, hostAct op s = .next t := by
  cases op with
  | read a =>
    obtain ⟨slot, names⟩ := slotAt_of_not_subword answered
    exact hostRead_has_next names s
  | write a v lat =>
    obtain ⟨slot, names⟩ := slotAt_of_not_subword answered
    exact hostWrite_has_next names v lat s
  | wait => exact ⟨_, rfl⟩
  | reset => exact ⟨_, rfl⟩

/-- What an operation from outside that has a next state `t` does to an idle block `s`. -/
inductive IdleAct (s : State) : HostOp → State → Prop
  /-- A read returns the slot's value (R51). -/
  | read (a : Access) (slot : Slot) (names : slotAt a = some slot) : IdleAct s (.read a) (s.give (readSlot s slot))
  /-- A write of a slot other than CMD (R52). -/
  | register (a : Access) (v : Word) (lat : Nat) (slot : Slot) (names : slotAt a = some slot) (notCmd : slot ≠ .cmd) :
      IdleAct s (.write a v lat) (s.written v slot)
  /-- An illegal command word (R75). -/
  | illegal (a : Access) (w : Word) (lat : Nat) (e : IllegalWord) (names : slotAt a = some .cmd)
      (illegal : decode w = .error e) : IdleAct s (.write a w lat) (s.raiseError .illegalCmd)
  /-- A DESRUN without a key, of latency n + 1 (R160). -/
  | noKey (a : Access) (w : Word) (n : Nat) (names : slotAt a = some .cmd) (legal : decode w = .ok .desrun)
      (noKey : s.kv = false) : IdleAct s (.write a w (n + 1)) (s.raiseError .noKey)
  /-- A command of latency 0 completes at once (R71, R224). -/
  | runs (a : Access) (w : Word) (i : Instr) (names : slotAt a = some .cmd) (legal : decode w = .ok i) :
      IdleAct s (.write a w 0) (effect i s).complete
  /-- A command of latency n + 1 becomes pending (R71, R225). -/
  | accepted (a : Access) (w : Word) (n : Nat) (i : Instr) (names : slotAt a = some .cmd) (legal : decode w = .ok i) :
      IdleAct s (.write a w (n + 1)) (s.accept i s.live n)
  /-- WAIT passes on (R82). -/
  | wait : IdleAct s .wait s
  /-- Reset (R221). -/
  | reset : IdleAct s .reset s.restart

theorem idleAct_of_hostAct {op : HostOp} {s t : State} (idle : s.pending = none) (h : hostAct op s = .next t) :
    IdleAct s op t := by
  have notBusy := (State.busy_eq_false_iff s).mpr idle
  cases op with
  | read a =>
    obtain ⟨slot, names, _, rfl⟩ | ⟨_, _, busy, _⟩ := hostRead_cases h
    · exact .read a slot names
    · exact absurd (notBusy.symm.trans busy) Bool.false_ne_true
  | write a v lat =>
    obtain ⟨busy, _⟩ | ⟨_, slot, names, written⟩ := hostWrite_cases h
    · exact absurd (notBusy.symm.trans busy) Bool.false_ne_true
    by_cases isCmd : slot = .cmd
    · subst isCmd
      obtain ⟨⟨e, illegal⟩, rfl⟩ | ⟨i, legal, rfl, rfl⟩ | ⟨_, n, legal, rfl, rfl, noKey, rfl⟩ |
        ⟨i, n, legal, rfl, _, rfl⟩ := command_cases written
      · exact .illegal a v lat e names illegal
      · exact .runs a v i names legal
      · exact .noKey a v n names legal noKey
      · exact .accepted a v n i names legal
    · rw [writeSlot_eq_written isCmd] at written
      cases written
      exact .register a v lat slot names isCmd
  | wait =>
    rw [hostAct_wait_idle idle] at h
    cases h
    exact .wait
  | reset =>
    cases h
    exact .reset

/-! ## No hazard -/

/-- `t` has answered no more draws than `s`, and records BUSY_WRITE only if `s` does. -/
def NoHazard (s t : State) : Prop := t.draws = s.draws ∧ (t.errCode = .busyWrite → s.errCode = .busyWrite)

theorem noHazard_raiseError {s : State} {c : ErrCode} (other : c ≠ .busyWrite) : NoHazard s (s.raiseError c) := by
  refine ⟨rfl, fun recorded => ?_⟩
  rw [State.raiseError_errCode] at recorded
  split at recorded
  · exact recorded
  · exact absurd recorded other

/-- No command draws, and the only code that one records is NO_KEY. -/
theorem noHazard_effect (i : Instr) (s : State) : NoHazard s (effect i s) := by
  by_cases moved : ErrorMoved s (effect i s)
  · obtain rfl | ⟨_, _, raised⟩ := errorMoved_effect moved
    · exact ⟨rfl, nofun⟩
    · exact raised ▸ noHazard_raiseError (by decide)
  · obtain ⟨_, _, draws, _⟩ := effect_outside i s
    obtain ⟨_, sameCode⟩ := not_errorMoved_iff.mp moved
    exact ⟨draws, fun recorded => sameCode ▸ recorded⟩

theorem written_outside (s : State) (v : Word) (slot : Slot) :
    (s.written v slot).inputs = s.inputs ∧ (s.written v slot).pending = s.pending
      ∧ NoHazard s (s.written v slot) := by
  cases slot <;> exact ⟨rfl, rfl, rfl, id⟩

/-- An operation on an idle block is no hazard, and leaves the inputs to come as they are (R223). -/
theorem idleAct_noHazard {op : HostOp} {s t : State} (act : IdleAct s op t) :
    t.inputs = s.inputs ∧ NoHazard s t := by
  cases act with
  | read | accepted | wait => exact ⟨rfl, rfl, id⟩
  | register _ v _ slot =>
    obtain ⟨inputs, _, noHazard⟩ := written_outside s v slot
    exact ⟨inputs, noHazard⟩
  | illegal | noKey => exact ⟨rfl, noHazard_raiseError (by decide)⟩
  | runs _ _ i =>
    obtain ⟨inputs, _⟩ := effect_outside i s
    exact ⟨inputs, noHazard_effect i s⟩
  | reset => exact ⟨rfl, rfl, nofun⟩

/-- An operation leaves an idle block idle, unless it is a command word of a latency other than 0. -/
theorem idleAct_pending {op : HostOp} {s t : State} (idle : s.pending = none) (act : IdleAct s op t) :
    t.pending = none ∨ ∃ a w n i, op = .write a w (n + 1) ∧ slotAt a = some .cmd ∧ decode w = .ok i
      ∧ t = s.accept i s.live n := by
  cases act with
  | read | illegal | noKey | wait => exact .inl idle
  | register _ v _ slot =>
    obtain ⟨_, pending, _⟩ := written_outside s v slot
    exact .inl (pending.trans idle)
  | runs | reset => exact .inl rfl
  | accepted a w n i names legal => exact .inr ⟨a, w, n, i, rfl, names, legal, rfl⟩

/-! ## The discipline of R227 -/

/-- What the discipline says of the next operation and of those after it (R227). -/
theorem hazardFree_cons {op : HostOp} {rest : List HostOp} (free : hazardFree (op :: rest) = true) :
    op.subword = false ∧ hazardFree rest = true
      ∧ ∀ a w lat, op = .write a w lat → slotAt a = some .cmd → waitNext rest = true := by
  cases op with
  | read a =>
    obtain ⟨aligned, free⟩ := Bool.and_eq_true_iff.mp free
    exact ⟨by simpa [HostOp.subword] using aligned, free, nofun⟩
  | write a v lat =>
    simp only [hazardFree, Bool.and_eq_true, Bool.or_eq_true, bne_iff_ne] at free
    obtain ⟨⟨aligned, polls⟩, free⟩ := free
    refine ⟨by simpa [HostOp.subword] using aligned, free, ?_⟩
    rintro _ _ _ ⟨⟩ names
    exact polls.resolve_left (absurd names)
  | wait => exact ⟨rfl, free, nofun⟩
  | reset => exact ⟨rfl, free, nofun⟩

theorem waitNext_iff {l : List HostOp} : waitNext l = true ↔ ∃ rest, l = .wait :: rest := by
  constructor
  · intro polls
    unfold waitNext at polls
    split at polls
    · exact ⟨_, rfl⟩
    · cases polls
  · rintro ⟨rest, rfl⟩
    rfl

/-- Where WAIT comes next, a step of a waiting block is the tick alone (R82). -/
theorem step_polling {s : State} {p : Pending} {n : Nat} (polls : waitNext s.inputs = true) (hp : s.pending = some p)
    (wait : p.wait = n + 1) : step s = .next (s.tick p n) := by
  obtain ⟨_, waiting⟩ := waitPollsUntilIdle
  obtain ⟨rest, next⟩ := waitNext_iff.mp polls
  exact waiting s p n rest hp wait next

/-- On an idle block the next operation of a disciplined host has a next state, which is all that a step of it does. -/
theorem step_idle_disciplined {s : State} {op : HostOp} {rest : List HostOp} (idle : s.pending = none)
    (next : s.inputs = op :: rest) (free : hazardFree (op :: rest) = true) :
    ∃ t, step s = .next t ∧ IdleAct (s.setInputs rest) op t := by
  obtain ⟨answered, _⟩ := hazardFree_cons free
  obtain ⟨t, act⟩ := hostAct_has_next answered (s.setInputs rest)
  exact ⟨t, (step_idle_cons idle next).trans act, idleAct_of_hostAct (s := s.setInputs rest) idle act⟩

theorem disciplined_of_idle {s : State} (free : hazardFree s.inputs = true) (idle : s.pending = none) :
    s.Disciplined :=
  ⟨free, fun busy => by simp [State.busy, idle] at busy⟩

/-- After an operation of a disciplined host on an idle block a command is pending only if WAIT comes next. -/
theorem disciplined_of_idleAct {s t : State} {op : HostOp} {rest : List HostOp} (idle : s.pending = none)
    (free : hazardFree (op :: rest) = true) (act : IdleAct (s.setInputs rest) op t) : t.Disciplined := by
  obtain ⟨_, freeRest, polls⟩ := hazardFree_cons free
  obtain ⟨inputs, _⟩ := idleAct_noHazard act
  obtain idle' | ⟨a, w, n, i, isWrite, names, _, rfl⟩ := idleAct_pending (s := s.setInputs rest) idle act
  · exact disciplined_of_idle (inputs ▸ freeRest) idle'
  · exact ⟨freeRest, fun _ => polls a w (n + 1) isWrite names⟩

/-- Settles O56: a pending command completes or waits while WAIT polls, and on an idle block no operation is a hazard. -/
theorem disciplinedHostMeetsNoHazard : Obligations.DisciplinedHostMeetsNoHazard := by
  rintro s ⟨free, polls⟩
  cases hp : s.pending with
  | some p =>
    cases wait : p.wait with
    | zero =>
      obtain ⟨inputs, _⟩ := effect_outside p.instr s
      exact ⟨_, (step_of_completion hp wait).trans (exec_eq_effect p.instr s),
        disciplined_of_idle (inputs ▸ free) rfl, noHazard_effect p.instr s⟩
    | succ n =>
      have polls := polls ((State.busy_eq_true_iff s).mpr ⟨p, hp⟩)
      exact ⟨_, step_polling polls hp wait, ⟨free, fun _ => polls⟩, rfl, id⟩
  | none =>
    cases next : s.inputs with
    | nil => exact ⟨s, (step_of_idle hp).trans (hostTurn_nil next), ⟨free, polls⟩, rfl, id⟩
    | cons op rest =>
      rw [next] at free
      obtain ⟨t, step, act⟩ := step_idle_disciplined hp next free
      obtain ⟨_, noHazard⟩ := idleAct_noHazard act
      exact ⟨t, step, disciplined_of_idleAct hp free act, noHazard⟩

end Sys2Proof.Machine

/-! Runs of several steps: a command that waits completes after its latency (R229), and a host that polls by WAIT cannot
tell the latencies apart (R224, R228). -/

namespace Sys2Proof.Machine

theorem run_add {m : Nat} (k : Nat) {s t : State} (h : Host.Core.run core m s = .next t) :
    Host.Core.run core (m + k) s = Host.Core.run core k t := by
  induction m generalizing s with
  | zero =>
    cases h
    rw [Nat.zero_add]
  | succ m ih =>
    rw [Nat.succ_add]
    cases first : core.step s with
    | next u =>
      simp only [Host.Core.run, first] at h ⊢
      exact ih h
    | fault _ | refused _ => simp [Host.Core.run, first] at h

/-! ## A waiting command completes -/

/-- An operation on a busy block leaves the inputs to come as they are, or is a WAIT that stays the next one. -/
theorem hostAct_busy_inputs {op : HostOp} {s t : State} (busy : s.busy = true) (h : hostAct op s = .next t) :
    t.inputs = s.inputs ∨ t.inputs = op :: s.inputs := by
  cases op with
  | read a => obtain ⟨_, _, _, rfl⟩ | ⟨_, _, _, _, _, rfl⟩ := hostRead_cases h <;> exact .inl rfl
  | write a v lat =>
    obtain ⟨_, rfl⟩ := hostWrite_busy busy h
    exact .inl rfl
  | wait =>
    rw [hostAct_wait_busy busy] at h
    cases h
    exact .inr rfl
  | reset =>
    cases h
    exact .inl rfl

/-- `t` differs from `s` in nothing but the error record and the outside's fields, and `p` is pending in it. -/
def State.KeptWhileBusy (s t : State) (p : Pending) : Prop :=
  t = { s with
    err := t.err, errCode := t.errCode, inputs := t.inputs, returned := t.returned, draws := t.draws, pending := some p }

/-- A turn of the outside on a busy block has a next state, unless reset or a refused access comes next; it keeps the
registers and the command, and the first `n` operations then to come are among the first `n + 1` now. -/
theorem hostTurn_while_busy {s : State} {p : Pending} (hp : s.pending = some p) (n : Nat)
    (harmless : ∀ op ∈ s.inputs.take (n + 1), op ≠ .reset ∧ op.subword = false) :
    ∃ t, hostTurn s = .next t ∧ s.KeptWhileBusy t p ∧ t.inputs.take n ⊆ s.inputs.take (n + 1) := by
  have busy := (State.busy_eq_true_iff s).mpr ⟨p, hp⟩
  cases next : s.inputs with
  | nil => exact ⟨s, hostTurn_nil next, by rw [State.KeptWhileBusy, ← hp], by simp [next]⟩
  | cons op rest =>
    rw [next] at harmless
    obtain ⟨notReset, answered⟩ := harmless op (by simp)
    obtain ⟨t, act⟩ := hostAct_has_next answered (s.setInputs rest)
    have turn : hostTurn s = .next t := (hostTurn_cons next).trans act
    refine ⟨t, turn, ?kept, ?inputs⟩
    case kept =>
      rw [State.KeptWhileBusy, ← hp]
      exact hostTurn_busy busy (by simpa [next] using notReset) turn
    case inputs =>
      obtain inputs | inputs := hostAct_busy_inputs (s := s.setInputs rest) busy act
      · rw [inputs]
        exact List.subset_cons_self op _
      · rw [inputs]
        exact List.take_subset_take_left _ (Nat.le_succ n)

/-- A command that waits `n` steps is at its completion after `n` steps, whatever harmless operations come (R229). -/
theorem run_while_waiting (n : Nat) {s : State} {p : Pending} (hp : s.pending = some p) (wait : p.wait = n)
    (harmless : ∀ op ∈ s.inputs.take n, op ≠ .reset ∧ op.subword = false) :
    ∃ u, Host.Core.run core n s = .next u ∧ s.KeptWhileBusy u { p with wait := 0 } := by
  induction n generalizing s p with
  | zero => exact ⟨s, rfl, by rw [State.KeptWhileBusy, ← wait, ← hp]⟩
  | succ n ih =>
    obtain ⟨t, turn, kept, fewer⟩ := hostTurn_while_busy (State.tick_pending s p n) n harmless
    have step := (step_of_waiting hp wait).trans turn
    obtain ⟨u, run, kept'⟩ := ih (congrArg State.pending kept) rfl fun op mem => harmless op (fewer mem)
    refine ⟨u, (run_succ n step).trans run, kept'.trans ?_⟩
    rw [kept]
    rfl

/-- Settles O11: the wait, then one step of the engine, with the operands that the pending command still holds. -/
theorem pendingCommandCompletes : Obligations.PendingCommandCompletes := by
  intro s p hp harmless
  obtain ⟨u, run, kept⟩ := run_while_waiting p.wait hp rfl harmless
  have pending : u.pending = some { p with wait := 0 } := congrArg State.pending kept
  have completes : step u = exec p.instr u := step_of_completion (p := { p with wait := 0 }) pending rfl
  have effect := exec_eq_effect p.instr u
  exact ⟨u, _, run, kept, State.operands_of_pending u { p with wait := 0 } pending, completes, effect,
    (run_add 1 run).trans (run_succ 0 (completes.trans effect)), rfl⟩

/-! ## A host that polls by WAIT sees no latency -/

/-- An accepted command that WAIT polls ends as if it had run at once (R224, R225). -/
theorem run_accept {s : State} (idle : s.pending = none) (polls : waitNext s.inputs = true) (i : Instr) (n : Nat) :
    Host.Core.run core (n + 1) (s.accept i s.live n) = .next (effect i s).complete := by
  induction n with
  | zero =>
    have completes := step_of_completion (s := s.accept i s.live 0) (p := ⟨i, s.live, 0⟩) rfl rfl
    exact run_succ 0 (completes.trans ((exec_accept idle i 0).trans (exec_eq_effect i s)))
  | succ n ih =>
    have ticks := step_polling (s := s.accept i s.live (n + 1)) (p := ⟨i, s.live, n + 1⟩) polls rfl rfl
    exact (run_succ (n + 1) ticks).trans ih

/-- The same operation, a command given latency 0. -/
def HostOp.now : HostOp → HostOp
  | .write a v _ => .write a v 0
  | op => op

theorem zeroLatency_cons (op : HostOp) (rest : List HostOp) :
    zeroLatency (op :: rest) = op.now :: zeroLatency rest := by
  cases op <;> rfl

theorem effect_setInputs (i : Instr) (s : State) (l : List HostOp) :
    effect i (s.setInputs l) = (effect i s).setInputs l := by
  cases i with
  | desrun =>
    simp only [effect, State.operands_setInputs]
    rw [apply_ite (State.setInputs · l)]
    rfl
  | _ => rfl

theorem exec_setInputs (i : Instr) (s : State) (l : List HostOp) :
    exec i (s.setInputs l) = .next ((effect i s).complete.setInputs l) := by
  rw [exec_eq_effect, effect_setInputs]
  rfl

theorem written_setInputs (s : State) (v : Word) (slot : Slot) (l : List HostOp) :
    (s.setInputs l).written v slot = (s.written v slot).setInputs l := by
  cases slot <;> rfl

/-- An operation that leaves an idle block idle does the same with latency 0, whatever is to come after it. -/
theorem hostAct_now_of_idleAct {op : HostOp} {s t : State} (idle : s.pending = none) (act : IdleAct s op t)
    (idleAfter : t.pending = none) (l : List HostOp) : hostAct op.now (s.setInputs l) = .next (t.setInputs l) := by
  have idleNow : (s.setInputs l).pending = none := idle
  cases act with
  | read a slot names => exact hostRead_of_idle idleNow names
  | register a v lat slot names notCmd =>
    exact (hostWrite_of_idle idleNow names).trans
      ((writeSlot_eq_written notCmd).trans (congrArg _ (written_setInputs s v slot l)))
  | illegal a w lat e names illegal => exact (hostWrite_of_idle idleNow names).trans (command_illegal illegal 0 _)
  | noKey a w n names legal noKey =>
    exact (hostWrite_of_idle idleNow names).trans (command_noKey legal idleNow noKey 0)
  | runs a w i names legal =>
    exact (hostWrite_of_idle idleNow names).trans ((command_now legal _).trans (exec_setInputs i s l))
  | accepted => cases idleAfter
  | wait => exact hostAct_wait_idle idleNow
  | reset => rfl

/-- The next operation of a disciplined host on an idle block ends, after some steps, in an idle block with that
operation done: the one that the same operation with latency 0 gives, whatever is to come after it. -/
theorem run_idle_disciplined {s : State} {op : HostOp} {rest : List HostOp} (idle : s.pending = none)
    (next : s.inputs = op :: rest) (free : hazardFree (op :: rest) = true) :
    ∃ m u, Host.Core.run core m s = .next u ∧ u.inputs = rest ∧ u.pending = none
      ∧ ∀ l, hostAct op.now (s.setInputs l) = .next (u.setInputs l) := by
  obtain ⟨_, _, polls⟩ := hazardFree_cons free
  obtain ⟨t, step, act⟩ := step_idle_disciplined idle next free
  obtain idleAfter | ⟨a, w, n, i, rfl, names, legal, rfl⟩ := idleAct_pending (s := s.setInputs rest) idle act
  · obtain ⟨inputs, _⟩ := idleAct_noHazard act
    exact ⟨1, t, run_succ 0 step, inputs, idleAfter,
      hostAct_now_of_idleAct (s := s.setInputs rest) idle act idleAfter⟩
  · have completes := run_accept (s := s.setInputs rest) idle (polls a w (n + 1) rfl names) i n
    obtain ⟨inputs, _⟩ := effect_outside i (s.setInputs rest)
    exact ⟨n + 2, _, (run_succ (n + 1) step).trans completes, inputs, rfl,
      hostAct_now_of_idleAct (s := s.setInputs rest) (op := .write a w 0) idle (.runs a w i names legal) rfl⟩

theorem run_zeroLatency (l : List HostOp) {s : State} (idle : s.pending = none) (inputs : s.inputs = l)
    (free : hazardFree l = true) :
    ∃ k t, Host.Core.run core k s = .next t
      ∧ Host.Core.run core l.length (s.setInputs (zeroLatency l)) = .next t ∧ t.inputs = [] ∧ t.pending = none := by
  induction l generalizing s with
  | nil =>
    have same : s.setInputs [] = s := by rw [State.setInputs, ← inputs]
    exact ⟨0, s, rfl, congrArg Host.Outcome.next same, inputs, idle⟩
  | cons op rest ih =>
    obtain ⟨_, freeRest, _⟩ := hazardFree_cons free
    obtain ⟨m, u, run, inputsAfter, idleAfter, now⟩ := run_idle_disciplined idle inputs free
    obtain ⟨k, t, runAfter, runNow, done⟩ := ih idleAfter inputsAfter freeRest
    have stepNow : step (s.setInputs (zeroLatency (op :: rest))) = .next (u.setInputs (zeroLatency rest)) :=
      (step_idle_cons (s := s.setInputs (zeroLatency (op :: rest))) idle (zeroLatency_cons op rest)).trans (now _)
    exact ⟨m + k, t, (run_add k run).trans runAfter, (run_succ _ stepNow).trans runNow, done⟩

/-- Settles O10: operation by operation, the block with the latencies catches up with the one without. -/
theorem disciplinedHostSeesNoLatency : Obligations.DisciplinedHostSeesNoLatency :=
  fun s idle free => run_zeroLatency s.inputs idle rfl free

end Sys2Proof.Machine
